-- ==== Sys2Proof/Word.lean ====
section
/-! DEFINITION. Word.lean: the bit widths of the block (00_scope.md R8, R9; 20_memory.md R50). -/

namespace Sys2Proof

/-- A host-visible register or a run argument: 32 bits, unsigned (R8, R9). -/
abbrev Word := BitVec 32

/-- One color channel, one transport byte (R7, R12). -/
abbrev Byte := BitVec 8

/-- A byte offset into the 4 MiB register window: 22 bits (R50). -/
abbrev Offset := BitVec 22

end Sys2Proof
end

