-- ==== Sys2Proof/Syntax.lean ====
section
/-! DEFINITION. Syntax.lean: the nine commands, one constructor per row of spec/opcode_table.json. -/

namespace Sys2Proof

/-- A command (30_encoding.md R71). No command has an operand field (R74). -/
inductive Instr where
  /-- NOP, 0x00 (42_transport_lifecycle.md R152). -/
  | nop
  /-- OPEN, 0x01 (42_transport_lifecycle.md R153). -/
  | openTransport
  /-- CONFIGURE, 0x02 (42_transport_lifecycle.md R154). -/
  | configure
  /-- ENCODE, 0x03 (40_bit_encoder.md R111). -/
  | encode
  /-- GEN_OFF, 0x04 (40_bit_encoder.md R112). -/
  | genOff
  /-- GEN_FILL, 0x05 (41_animator.md R122). -/
  | genFill
  /-- TRANSMIT, 0x06 (42_transport_lifecycle.md R155). -/
  | transmit
  /-- RUN, 0x07 (41_animator.md R123). -/
  | run
  /-- SHUTDOWN, 0x08 (42_transport_lifecycle.md R156). -/
  | shutdown
  deriving DecidableEq, Repr

end Sys2Proof
end

