-- ==== Sys2Proof/Decode.lean ====
section
/-! DEFINITION. Decode.lean: from a CTRL word to a command or a named rejection, and back (30_encoding.md R70 to R72). -/

namespace Sys2Proof

/-- Why a CTRL word is illegal (R72). Both reasons are reported to the host as ILLEGAL_COMMAND. -/
inductive DecodeReject where
  /-- Bits [31:8] are not zero. -/
  | mustBeZero
  /-- OP is 0x09 to 0xFF. -/
  | unknownOpcode
  deriving DecidableEq, Repr

/-- Field OP, bits [7:0] of a CTRL32 word (R70). -/
def opField (v : Word) : Byte := v.extractLsb' 0 8

/-- Field MBZ, bits [31:8] of a CTRL32 word (R70). -/
def mbzField (v : Word) : BitVec 24 := v.extractLsb' 8 24

/-- The opcode map (R71), by opcode number. -/
def decodeOp : Nat → Option Instr
  | 0x00 => some .nop
  | 0x01 => some .openTransport
  | 0x02 => some .configure
  | 0x03 => some .encode
  | 0x04 => some .genOff
  | 0x05 => some .genFill
  | 0x06 => some .transmit
  | 0x07 => some .run
  | 0x08 => some .shutdown
  | _ => none

/-- The decoder: it always reads exactly one word (R70). -/
def decode (v : Word) : Except DecodeReject Instr :=
  if mbzField v = 0#24 then
    match decodeOp (opField v).toNat with
    | some i => .ok i
    | none => .error .unknownOpcode
  else .error .mustBeZero

/-- The opcode map (R71), by command. -/
def opcode : Instr → Byte
  | .nop => 0x00#8
  | .openTransport => 0x01#8
  | .configure => 0x02#8
  | .encode => 0x03#8
  | .genOff => 0x04#8
  | .genFill => 0x05#8
  | .transmit => 0x06#8
  | .run => 0x07#8
  | .shutdown => 0x08#8

/-- The encoder: MBZ zero, then OP (R70). -/
def encode (i : Instr) : Word := 0#24 ++ opcode i

/-- The command the decoder reads from a table row's bits `w`, `nbits` of them; bits above `nbits` are zero. A command has
one 32-bit word and no other length (R70, R76), so a longer pattern with a bit set above bit 31 is none. -/
def decodeTableWord (nbits w : Nat) : Option Instr :=
  let v := w % 2 ^ nbits
  if v < 2 ^ 32 then
    match decode (BitVec.ofNat 32 v) with
    | .ok i => some i
    | .error _ => none
  else none

end Sys2Proof
end

