-- ==== Sys2Proof/Config.lean ====
section
/-! DEFINITION. Config.lean: colors, the parameters an implementation fixes, and the free values. -/

namespace Sys2Proof

/-- A Color, written in R, G, B order (00_scope.md R12). -/
structure Color where
  r : Byte
  g : Byte
  b : Byte
  deriving DecidableEq, Repr, Inhabited

/-- What construction fixes: the strip configuration (00_scope.md R6, 10_state.md R20), the encoder and animator
parameters (R7) and the window's BASE (20_memory.md R50). The operands of OPEN and CONFIGURE, `bus`, `device`, `clockHz`
and `spiMode`, are 32 bits wide (30_encoding.md R74); `delayUnit` names the unit of time and nothing reads it. -/
structure Cfg where
  ledCount   : Nat
  bus        : Word
  device     : Word
  clockHz    : Word
  spiMode    : Word
  pulseHigh  : Byte
  pulseLow   : Byte
  colorRed   : Color
  colorGreen : Color
  colorBlue  : Color
  pauseDelay : Word
  delayUnit  : Nat
  base       : Nat
  deriving DecidableEq, Repr

/-! The parameters the spec leaves OPEN (92_eei_decisions.md D6 to D9, D37; log entry 1): no value of them can be proved. -/

/-- LED_COUNT less one, so that LED_COUNT takes every value from 1 to 65535 and no other (R6). -/
opaque Config.ledCountPred : Fin 65535
opaque Config.bus : Word
opaque Config.device : Word
opaque Config.clockHz : Word
opaque Config.spiMode : Word
opaque Config.pulseLow : Byte
/-- How far PULSE_HIGH lies above PULSE_LOW, less one, so that every pair of different bytes can occur (R7). -/
opaque Config.pulseGap : Fin 255
opaque Config.colorRed : Color
opaque Config.colorGreen : Color
opaque Config.colorBlue : Color
opaque Config.pauseDelay : Word
opaque Config.delayUnit : Nat
opaque Config.base : Nat

/-- The configuration of the block that `State.reset` describes. -/
def Config.cfg : Cfg where
  ledCount   := Config.ledCountPred.val + 1
  bus        := Config.bus
  device     := Config.device
  clockHz    := Config.clockHz
  spiMode    := Config.spiMode
  pulseHigh  := Config.pulseLow + BitVec.ofNat 8 (Config.pulseGap.val + 1)
  pulseLow   := Config.pulseLow
  colorRed   := Config.colorRed
  colorGreen := Config.colorGreen
  colorBlue  := Config.colorBlue
  pauseDelay := Config.pauseDelay
  delayUnit  := Config.delayUnit
  base       := Config.base

/-! Free values (93_implementation_defined.md U10, U11; log entries 6 and 7). -/

/-- A COLOR_RAM byte nothing has written since reset (10_state.md R36): draw number, then window offset. -/
opaque Config.freeColorByte : Nat → Nat → Byte

/-- An OUT byte at index OUT_LEN or above (10_state.md R35, 20_memory.md R55): draw number, then window offset. One draw lasts
until OUT is next written, so that two reads with no write between them agree (R54). -/
opaque Config.freeOutByte : Nat → Nat → Byte

/-- The clock and pattern timing precondition of 70_reset_and_hazards.md R194, over CLOCK_HZ, PULSE_HIGH and PULSE_LOW:
a named launch premise with no values in the spec. No rule reads it. -/
opaque Config.TimingOK : Word → Byte → Byte → Prop

/-- The Transport streams the bytes of request number n of HIST back-to-back with no gaps: the premise on the Transport of
60_exceptions.md R188 (40_bit_encoder.md R110), named and with no value in the spec (log entry 24). No rule reads it. -/
opaque Config.StreamedWithoutGaps : Nat → List Byte → Prop

end Sys2Proof
end

