-- ==== Sys2Proof/Machine/Encoder.lean ====
section
/-! DEFINITION. Encoder.lean: the bit encoder, the off pattern and the fill frames, as pure functions of the parameters
(40_bit_encoder.md R101 to R109; 41_animator.md R120, R121). -/

namespace Sys2Proof.Machine

/-- ENC_BIT (R101). -/
def encBit (c : Cfg) (b : Bool) : Byte := if b then c.pulseHigh else c.pulseLow

/-- CHANNELS_GRB (R102). -/
def channelsGRB (x : Color) : List Byte := [x.g, x.r, x.b]

/-- ENC_CHANNEL, most significant bit first (R103). -/
def encChannel (c : Cfg) (v : Byte) : List Byte :=
  [7, 6, 5, 4, 3, 2, 1, 0].map (fun k => encBit c (v.getLsbD k))

/-- ENC_COLOR (R104). -/
def encColor (c : Cfg) (x : Color) : List Byte := (channelsGRB x).flatMap (encChannel c)

/-- ENCODE_SEQ (R105). -/
def encodeSeq (c : Cfg) (xs : List Color) : List Byte := xs.flatMap (encColor c)

/-- OFF_BUFFER(N) for N = LED_COUNT (R107). -/
def offBuffer (c : Cfg) : List Byte := List.replicate (24 * c.ledCount) c.pulseLow

/-- CYCLE[j mod 3] (41_animator.md R120, R121). -/
def cycleColor (c : Cfg) (j : Nat) : Color :=
  match j % 3 with
  | 0 => c.colorRed
  | 1 => c.colorGreen
  | _ => c.colorBlue

/-- FILL_FRAME(i): i + 1 colors (R121). -/
def fillFrame (c : Cfg) (i : Nat) : List Color := (List.range (i + 1)).map (cycleColor c)

/-- DEC_BYTE (R108), for conformance only. -/
def decByte (c : Cfg) (y : Byte) : Option Bool :=
  if y = c.pulseHigh then some true else if y = c.pulseLow then some false else none

/-- A channel from its eight bits, most significant first (R108). -/
def channelOfBits (bs : List Bool) : Byte :=
  BitVec.ofNat 8 (bs.foldl (fun n b => 2 * n + b.toNat) 0)

/-- The decoded bits of a buffer; none where a byte is neither pattern (R108). -/
def decBits (c : Cfg) (bs : List Byte) : Option (List Bool) := bs.mapM (decByte c)

/-- `k` colors from their bits: G in the first eight, then R, then B (R108). -/
def colorsOfBits : Nat → List Bool → List Color
  | 0, _ => []
  | k + 1, bs =>
    { g := channelOfBits (bs.take 8)
      r := channelOfBits ((bs.drop 8).take 8)
      b := channelOfBits ((bs.drop 16).take 8) } :: colorsOfBits k (bs.drop 24)

/-- DECODE (R108): defined only on a length that is a multiple of 24 with every byte a pattern. No command performs it. -/
def decodeBuffer (c : Cfg) (bs : List Byte) : Option (List Color) :=
  if bs.length % 24 = 0 then (decBits c bs).map (colorsOfBits (bs.length / 24)) else none

end Sys2Proof.Machine
end

