-- ==== Sys2Proof/Machine/State.lean ====
section
/-! DEFINITION. State.lean: the state the spec gives the block (10_state.md), the moves of its agents (00_scope.md R13),
the reasons a step can stop, and the state right after reset (70_reset_and_hazards.md R190). -/

namespace Sys2Proof.Machine

/-- LC, the lifecycle state (10_state.md R21). Codes 5 to 7 are never written, so they have no constructor. -/
inductive Lifecycle where
  | unopened | opened | configured | released | startupFailed
  deriving DecidableEq, Repr

/-- AS, the animator state (10_state.md R22). Codes 6 and 7 are never written, so they have no constructor. -/
inductive Animator where
  | idle | filling | allOff | paused | done | aborted
  deriving DecidableEq, Repr

/-- PH, the hidden sequencer phase (10_state.md R23). -/
inductive Phase where
  | none | issue | xferWait | delayWait | pauseWait
  deriving DecidableEq, Repr

/-- CODE, the result of the most recent command (60_exceptions.md R171). Codes 0x06 to 0xFF are never written. -/
inductive ErrCode where
  | ok | transportUnavailable | transportIoError | illegalCommand | badState | badArgument
  deriving DecidableEq, Repr

/-- A request on the transport port (42_transport_lifecycle.md R150) or, for `wait`, on the timer port (R151). -/
inductive PortRequest where
  | openT (bus device : Word)
  | configureT (clockHz mode : Word)
  | xfer (bytes : List Byte)
  | closeT
  | wait (d : Word)
  deriving DecidableEq, Repr

/-- What a port answers (R150, R151). -/
inductive Response where
  | ok | unavailable | ioError | done
  deriving DecidableEq, Repr

/-- One entry of HIST: a request and, once the port has answered, its response (10_state.md R39). -/
structure HistEntry where
  request  : PortRequest
  response : Option Response
  deriving DecidableEq, Repr

/-- The width of a host access (20_memory.md R52). -/
inductive Width where
  | w8 | w16 | w32 | w64
  deriving DecidableEq, Repr

/-- One host access to the window, at the address BASE + offset (20_memory.md R50, 30_encoding.md R79). Only 32-bit writes
have an effect, so the data is a Word whatever the width. -/
inductive HostAccess where
  | read (a : Offset) (width : Width)
  | write (a : Offset) (width : Width) (v : Word)
  deriving DecidableEq, Repr

/-- One move of one agent (00_scope.md R13), or a reset arriving from outside (70_reset_and_hazards.md R191). The response
a Transport move carries is the Transport's free draw (R150). -/
inductive Move where
  | host (a : HostAccess)
  | core
  | transport (r : Response)
  | timer
  | reset
  deriving DecidableEq, Repr

/-- The bytes of COLOR_RAM and OUT that hold a known value, by window offset: offsets strictly rising (log entry 8). -/
abbrev Memory := List Host.Cell

/-- The block's state, and the agents' moves still to come. -/
structure State where
  /-- CFG and the other parameters, fixed by construction (10_state.md R20; log entry 2). -/
  cfg : Cfg
  /-- LC (R21). -/
  lc : Lifecycle
  /-- AS (R22). -/
  anim : Animator
  /-- PH (R23). -/
  ph : Phase
  /-- BUSY (R28). -/
  busy : Bool
  /-- CUR_OP (R38). -/
  curOp : Option Instr
  /-- PENDING (R38). -/
  pending : Option PortRequest
  /-- ERR.CODE (R29). -/
  err : ErrCode
  /-- POS (R24). -/
  pos : Word
  /-- REP_COUNT (R25). -/
  repCount : Word
  /-- XFER_COUNT (R37). -/
  xferCount : Word
  /-- RUN_DELAY (R26). -/
  runDelay : Word
  /-- RUN_REPS (R27). -/
  runReps : Word
  /-- DELAY (R30). -/
  delay : Word
  /-- REPS (R31). -/
  reps : Word
  /-- FRAME_LEN (R32). -/
  frameLen : Word
  /-- FILL_INDEX (R33). -/
  fillIndex : Word
  /-- OUT_LEN (R34). -/
  outLen : Word
  /-- COLOR_RAM (R36) and OUT (R35). -/
  mem : Memory
  /-- HIST, oldest first (R39). -/
  hist : List HistEntry
  /-- The model's own: which free draw unwritten COLOR_RAM bytes show (log entry 6). -/
  colorDraw : Nat
  /-- The model's own: which free draw unspecified OUT bytes show (log entries 6 and 7). -/
  outDraw : Nat
  /-- The model's own: the moves to come, first to move first (log entry 3). -/
  schedule : List Move
  /-- The model's own: what the Host has read, oldest first (30_encoding.md R77; log entry 12). -/
  reads : List (Offset × Word)
  deriving DecidableEq, Repr

/-- Why a step can stop with a fault. Both the spec's errors and its commands go on; this one reason is the model's. -/
inductive Fault where
  /-- Raised by a Transport or Timer move when the outstanding request belongs to no command that could have issued it: a
  control state no run reaches, for which the spec gives no continuation. Safe (log entry 11). -/
  | noContinuation
  deriving DecidableEq, Repr

/-- Why a step can be refused. A refusal is the spec's refusal mark (20_memory.md R52; log entry 4). -/
inductive Refusal where
  /-- Raised by an arm of exec whose command has no meaning yet. Safe. -/
  | notModelled (mnemonic : String)
  /-- Raised by a CTRL write while BUSY = 1 (60_exceptions.md R178). Safe. -/
  | ctrlWriteWhileBusy
  /-- Raised by a host access that is not 32 bits wide (20_memory.md R52). Safe. -/
  | accessWidth
  /-- Raised by a host access at an offset that is not a multiple of 4 (R52). Safe. -/
  | accessMisaligned
  /-- Raised by a host access to an unmapped offset (R53). Safe. -/
  | accessUnmapped
  /-- Raised by a Transport move whose response R150 does not list for the request. Safe (log entry 10). -/
  | responseNotListed
  /-- Raised by constructing a block with an illegal configuration (10_state.md R20). Safe. -/
  | illegalConfiguration
  deriving DecidableEq, Repr

/-- The state right after construction with configuration `c` (70_reset_and_hazards.md R190). The last four fields are
the model's own. -/
def State.resetWith (c : Cfg) : State where
  cfg := c
  lc := .unopened
  anim := .idle
  ph := .none
  busy := false
  curOp := none
  pending := none
  err := .ok
  pos := 0
  repCount := 0
  xferCount := 0
  runDelay := 0
  runReps := 0
  delay := 0
  reps := 0
  frameLen := 0
  fillIndex := 0
  outLen := 0
  mem := []
  hist := []
  colorDraw := 0
  outDraw := 0
  schedule := []
  reads := []

/-- The machine right after reset: any legal configuration, none in particular (log entry 1). -/
def State.reset : State := State.resetWith Config.cfg

end Sys2Proof.Machine
end

