-- ==== Sys2Proof/WellFormed.lean ====
section
/-! DEFINITION. WellFormed.lean: which commands, CTRL words and configurations the spec calls legal. -/

namespace Sys2Proof

/-- Every command is well formed: none has an operand field (30_encoding.md R74). -/
def Instr.wellFormed : Instr → Bool
  | .nop | .openTransport | .configure | .encode | .genOff | .genFill | .transmit | .run | .shutdown => true

/-- A CTRL word is legal when bits [31:8] are zero and OP is 0x00 to 0x08 (30_encoding.md R72). -/
def ctrlWordLegal (v : Word) : Bool :=
  v.extractLsb' 8 24 == 0#24 && decide ((v.extractLsb' 0 8).toNat ≤ 8)

/-- A configuration is legal when LED_COUNT is 1 to 65535 (10_state.md R20) and PULSE_HIGH differs from PULSE_LOW
(00_scope.md R7). The other parameters have no constraint. -/
def Cfg.wf (c : Cfg) : Bool :=
  decide (1 ≤ c.ledCount) && decide (c.ledCount ≤ 65535) && decide (c.pulseHigh ≠ c.pulseLow)

end Sys2Proof
end

