-- ==== Sys2Proof/Machine/Ops.lean ====
section
/-! DEFINITION. Ops.lean: the operations every command and every port step is made of: the window memory, the two ports,
HIST, and the end of a command, which is how the block takes an error (60_exceptions.md R179). -/

namespace Sys2Proof.Machine

/-! Window memory (20_memory.md R51; log entry 8). -/

/-- Offset of COLOR_RAM (R51). -/
abbrev colorBase : Nat := 0x040000

/-- Offset of OUTBUF (R51). -/
abbrev outBase : Nat := 0x200000

/-- The canonical form: offsets strictly rising. An unlisted byte has no value in the list, so no entry can equal it. -/
abbrev Memory.wf (m : Memory) : Prop := m.Pairwise (fun x y => x.1 < y.1)

/-- The listed value at offset `a`, if there is one. -/
def Memory.get? : Memory → Nat → Option Byte
  | [], _ => none
  | (x, b) :: m, a => if x = a then some b else Memory.get? m a

/-- List the value `b` at offset `a`. -/
def Memory.set : Memory → Nat → Byte → Memory
  | [], a, b => [(a, b)]
  | (x, y) :: m, a, b =>
    if a < x then (a, b) :: (x, y) :: m
    else if a = x then (a, b) :: m
    else (x, y) :: Memory.set m a b

/-- Only the bytes below offset `a`. -/
def Memory.below (m : Memory) (a : Nat) : Memory := m.filter (fun x => decide (x.1 < a))

/-- The bytes `bs` at offset `a` and up. -/
def Memory.cells : Nat → List Byte → Memory
  | _, [] => []
  | a, b :: bs => (a, b) :: Memory.cells (a + 1) bs

/-- What an unlisted byte reads as: a free draw (10_state.md R35, R36; log entries 6 and 7). -/
def State.unwritten (s : State) (a : Nat) : Byte :=
  if a < outBase then Config.freeColorByte s.colorDraw a else Config.freeOutByte s.outDraw a

/-- The byte COLOR_RAM or OUT holds at window offset `a`. -/
def State.byteAt (s : State) (a : Nat) : Byte :=
  match s.mem.get? a with
  | some b => b
  | none => s.unwritten a

/-- Offset of the byte that holds bits [8k+7:8k] of COLOR_RAM word `j` (20_memory.md R56, 30_encoding.md R75). -/
def colorAddr (j k : Nat) : Nat := colorBase + 4 * j + k

/-- Offset of byte `n` of OUT (20_memory.md R56). -/
def outAddr (n : Nat) : Nat := outBase + n

/-- COLOR_RAM[j] <- c: three bytes, in one step. Bits [31:24] of the word are not stored (R54, R75). -/
def State.writeColor (j : Nat) (c : Color) (s : State) : State :=
  { s with mem := ((s.mem.set (colorAddr j 0) c.b).set (colorAddr j 1) c.g).set (colorAddr j 2) c.r }

/-- OUT[0 .. k-1] <- buf and OUT_LEN <- k, in one step (R34, R35). Bytes at index k or above become a fresh free draw
(R35, R55; log entry 7). -/
def State.writeOut (buf : List Byte) (s : State) : State :=
  { s with
    mem := s.mem.below outBase ++ Memory.cells outBase buf
    outLen := BitVec.ofNat 32 buf.length
    outDraw := s.outDraw + 1 }

/-! Ports and HIST (10_state.md R38, R39; 42_transport_lifecycle.md R150, R151). -/

/-- PENDING <- q and emit q: the request is recorded when it is issued. -/
def State.request (q : PortRequest) (s : State) : State :=
  { s with pending := some q, hist := s.hist ++ [⟨q, none⟩] }

/-- HIST with the newest request's response filled in. -/
def answerLast (r : Response) : List HistEntry → List HistEntry
  | [] => []
  | [e] => [{ e with response := some r }]
  | e :: f :: h => e :: answerLast r (f :: h)

/-- PENDING <- NONE, with the response recorded in HIST. -/
def State.answer (r : Response) (s : State) : State :=
  { s with pending := none, hist := answerLast r s.hist }

/-- The responses R150 and R151 list for a request. CONFIGURE and CLOSE never fail (92_eei_decisions.md D22). -/
def PortRequest.listed : PortRequest → List Response
  | .openT _ _ => [.ok, .unavailable]
  | .configureT _ _ => [.ok]
  | .xfer _ => [.ok, .ioError]
  | .closeT => [.ok]
  | .wait _ => [.done]

/-- Add one to a counter, modulo 2^32 (00_scope.md R8). -/
def Word.succ (w : Word) : Word := w + 1#32

/-- XFER_COUNT <- XFER_COUNT + 1 (10_state.md R37). -/
def State.countTransfer (s : State) : State := { s with xferCount := Word.succ s.xferCount }

/-- Issue `transfer(buf)`: count it and put the request on the transport port (R37, R150). -/
def State.transfer (buf : List Byte) (s : State) : State := s.countTransfer.request (.xfer buf)

/-! The start and the end of a command (10_state.md R28, R29; 60_exceptions.md R170, R179). -/

/-- BUSY <- 1 and CUR_OP <- i: a command that issues port requests is accepted (R28, R38). -/
def State.accept (i : Instr) (s : State) : State := { s with busy := true, curOp := some i }

/-- A command that issues no port request ends, or a command is rejected: ERR <- c and nothing else (R28, R179). -/
def State.setErr (c : ErrCode) (s : State) : State := { s with err := c }

/-- A command that held BUSY ends with code `c`; for a code other than OK this is the block's error entry (R179, also
41_animator.md R133 and 42_transport_lifecycle.md R153). Nothing is saved and there is no return (R180). -/
def State.complete (c : ErrCode) (s : State) : State :=
  { s with pending := none, ph := .none, curOp := none, busy := false, err := c }

/-- The whole of an error that ends a command: the lifecycle or animator state it also sets (R179), then the end. -/
def State.takeError (c : ErrCode) (s : State) : State :=
  match c with
  | .transportUnavailable => { s with lc := .startupFailed }.complete c
  | .transportIoError => { s with anim := if s.curOp = some Instr.run then .aborted else s.anim }.complete c
  | _ => s.setErr c

/-- A reset while the block runs: every field of R190 takes its reset value, CFG stays (R20, D42), an outstanding request is
dropped (R191), and both buffers hold fresh draws. The moves to come and what the Host has read are not the block's
(log entry 9). -/
def State.resetAgain (s : State) : State :=
  { State.resetWith s.cfg with
    colorDraw := s.colorDraw + 1
    outDraw := s.outDraw + 1
    schedule := s.schedule
    reads := s.reads }

/-- The Host notes the value a read returned (30_encoding.md R77; log entry 12). -/
def State.noteRead (a : Offset) (v : Word) (s : State) : State := { s with reads := s.reads ++ [(a, v)] }

/-- Construction: a configuration that is not legal is refused, and no state exists for it (10_state.md R20, U3, U4;
log entry 13). -/
def State.construct (c : Cfg) : Host.Outcome State Fault Refusal :=
  if c.wf then .next (State.resetWith c) else .refused .illegalConfiguration

end Sys2Proof.Machine
end

