-- ==== Sys2Proof/Machine/Operands.lean ====
section
/-! DEFINITION. Operands.lean: where each command's operands come from (30_encoding.md R71, R74, R75). -/

namespace Sys2Proof.Machine

/-- ColorOf: R in [23:16], G in [15:8], B in [7:0]; [31:24] is dropped (R75). -/
def colorOfWord (w : Word) : Color :=
  { r := w.extractLsb' 16 8, g := w.extractLsb' 8 8, b := w.extractLsb' 0 8 }

/-- A Color as the host reads it; [31:24] is 0 (20_memory.md R54). -/
def wordOfColor (c : Color) : Word := 0#8 ++ c.r ++ c.g ++ c.b

/-- COLOR_RAM[j] (10_state.md R36). -/
def State.colorAt (s : State) (j : Nat) : Color :=
  { r := s.byteAt (colorAddr j 2), g := s.byteAt (colorAddr j 1), b := s.byteAt (colorAddr j 0) }

/-- COLOR_RAM[0 .. k-1], one snapshot (40_bit_encoder.md R111, 20_memory.md R58). -/
def State.frame (s : State) (k : Nat) : List Color := (List.range k).map s.colorAt

/-- OUT[n] (10_state.md R35). -/
def State.outByte (s : State) (n : Nat) : Byte := s.byteAt (outAddr n)

/-- OUT[0 .. OUT_LEN-1], one snapshot (20_memory.md R58, 42_transport_lifecycle.md R155). -/
def State.outBytes (s : State) : List Byte := (List.range s.outLen.toNat).map s.outByte

/-- OUTBUF word m, little-endian (20_memory.md R54, R56). -/
def State.outWord (s : State) (m : Nat) : Word :=
  s.outByte (4 * m + 3) ++ s.outByte (4 * m + 2) ++ s.outByte (4 * m + 1) ++ s.outByte (4 * m)

end Sys2Proof.Machine
end

