-- ==== Sys2Proof/Machine/Buffers.lean ====
section
/-! DEFINITION. Buffers.lean: the commands that make a buffer in OUT and issue no port request: ENCODE, GEN_OFF and
GEN_FILL. Each completes in the step that accepts it (10_state.md R28). -/

namespace Sys2Proof.Machine

/-- OUT <- buf, OUT_LEN, ERR <- OK. -/
def State.produce (buf : List Byte) (s : State) : State := (s.writeOut buf).setErr .ok

/-- ENCODE (40_bit_encoder.md R111): encode the first FRAME_LEN colors of COLOR_RAM. Accepted in every LC. -/
def execEncode (s : State) : Host.Outcome State Fault Refusal :=
  if s.cfg.ledCount < s.frameLen.toNat then .next (s.takeError .badArgument)
  else .next (s.produce (encodeSeq s.cfg (s.frame s.frameLen.toNat)))

/-- GEN_OFF (40_bit_encoder.md R112): the all-off buffer of the whole strip. Accepted in every LC. -/
def execGenOff (s : State) : Host.Outcome State Fault Refusal := .next (s.produce (offBuffer s.cfg))

/-- GEN_FILL (41_animator.md R122): the encoded fill frame of step FILL_INDEX. Accepted in every LC. -/
def execGenFill (s : State) : Host.Outcome State Fault Refusal :=
  if s.fillIndex.toNat < s.cfg.ledCount then .next (s.produce (encodeSeq s.cfg (fillFrame s.cfg s.fillIndex.toNat)))
  else .next (s.takeError .badArgument)

end Sys2Proof.Machine
end

