-- ==== Sys2Proof/Machine/Lifecycle.lean ====
section
/-! DEFINITION. Lifecycle.lean: NOP, OPEN, CONFIGURE, TRANSMIT and SHUTDOWN, and what each does when the Transport answers
(42_transport_lifecycle.md R152 to R156). -/

namespace Sys2Proof.Machine

/-- NOP (R152): ERR <- OK, nothing else. -/
def execNop (s : State) : Host.Outcome State Fault Refusal := .next (s.setErr .ok)

/-- OPEN, acceptance (R153): only from UNOPENED. -/
def execOpen (s : State) : Host.Outcome State Fault Refusal :=
  if s.lc = .unopened then .next ((s.accept .openTransport).request (.openT s.cfg.bus s.cfg.device))
  else .next (s.takeError .badState)

/-- OPEN, answered (R153); `s` already holds the response in HIST. -/
def openAnswered (r : Response) (s : State) : State :=
  if r = .ok then { s with lc := .opened }.complete .ok else s.takeError .transportUnavailable

/-- CONFIGURE, acceptance (R154): only from OPENED. -/
def execConfigure (s : State) : Host.Outcome State Fault Refusal :=
  if s.lc = .opened then .next ((s.accept .configure).request (.configureT s.cfg.clockHz s.cfg.spiMode))
  else .next (s.takeError .badState)

/-- CONFIGURE, answered OK, its only response (R154). -/
def configureAnswered (s : State) : State := { s with lc := .configured }.complete .ok

/-- TRANSMIT, acceptance (R155): only in CONFIGURED; the buffer is a snapshot of OUT. -/
def execTransmit (s : State) : Host.Outcome State Fault Refusal :=
  if s.lc = .configured then .next ((s.accept .transmit).transfer s.outBytes)
  else .next (s.takeError .badState)

/-- TRANSMIT, answered (R155). -/
def transmitAnswered (r : Response) (s : State) : State :=
  if r = .ok then s.complete .ok else s.takeError .transportIoError

/-- SHUTDOWN, acceptance (R156): a CLOSE only where the transport is held; a second SHUTDOWN does nothing. -/
def execShutdown (s : State) : Host.Outcome State Fault Refusal :=
  match s.lc with
  | .opened | .configured => .next ((s.accept .shutdown).request .closeT)
  | .unopened | .startupFailed => .next ({ s with lc := .released }.setErr .ok)
  | .released => .next (s.setErr .ok)

/-- SHUTDOWN, its CLOSE answered OK, the only response (R156). -/
def shutdownAnswered (s : State) : State := { s with lc := .released }.complete .ok

end Sys2Proof.Machine
end

