-- ==== Sys2Proof/Machine/Sequencer.lean ====
section
/-! DEFINITION. Sequencer.lean: RUN and the sequencer's steps (41_animator.md R123 to R133). In these rules N is LED_COUNT
and i is POS. -/

namespace Sys2Proof.Machine

/-- RUN, acceptance (R123, R124): only in CONFIGURED; DELAY and REPS are latched. With REPS = 0 the run is over at once. -/
def execRun (s : State) : Host.Outcome State Fault Refusal :=
  if s.lc = .configured then
    let l := { s with runDelay := s.delay, runReps := s.reps, pos := 0, repCount := 0 }
    if s.reps = 0#32 then .next ({ l with anim := .done }.setErr .ok)
    else .next { l.accept .run with anim := .filling, ph := .issue }
  else .next (s.takeError .badState)

/-- A buffer of the run is placed in OUT and transferred (R125, R129). -/
def State.issueFrame (buf : List Byte) (s : State) : State :=
  { (s.writeOut buf).transfer buf with ph := .xferWait }

/-- The Core's own steps (R125, R129): in PH = ISSUE it issues the transfer of the fill frame or of the off buffer. In
every other control state the Core has no step of its own, and nothing changes (log entry 10). -/
def coreStep (s : State) : State :=
  match s.curOp, s.ph, s.anim with
  | some .run, .issue, .filling => s.issueFrame (encodeSeq s.cfg (fillFrame s.cfg s.pos.toNat))
  | some .run, .issue, .allOff => s.issueFrame (offBuffer s.cfg)
  | _, _, _ => s

/-- Filling(i), transfer OK (R126): the inter-step wait, after the last fill frame too and with a delay of 0 too. -/
def fillSent (s : State) : State := { s.request (.wait s.runDelay) with ph := .delayWait }

/-- AllOff, transfer OK (R130): one more repetition is done; pause if more remain, else the run is done. -/
def offSent (s : State) : State :=
  let t := { s with repCount := Word.succ s.repCount }
  if t.repCount.toNat < t.runReps.toNat then
    { t.request (.wait t.cfg.pauseDelay) with anim := .paused, ph := .pauseWait }
  else { t with anim := .done }.complete .ok

/-- The Transport has answered a transfer of a run (R126, R127, R130, R131); none where no transfer of a run can be
outstanding. `s` already holds the response in HIST. -/
def runAnswered (r : Response) (s : State) : Option State :=
  match s.anim, s.ph with
  | .filling, .xferWait => some (if r = .ok then fillSent s else s.takeError .transportIoError)
  | .allOff, .xferWait => some (if r = .ok then offSent s else s.takeError .transportIoError)
  | _, _ => none

/-- Filling(i), wait DONE (R128): the next fill step, or AllOff after the last. -/
def delayDone (s : State) : State :=
  if s.pos.toNat + 1 < s.cfg.ledCount then { s with pos := Word.succ s.pos, ph := .issue }
  else { s with anim := .allOff, ph := .issue }

/-- Paused, wait DONE (R132): back to Filling(0). -/
def pauseDone (s : State) : State := { s with pos := 0, anim := .filling, ph := .issue }

/-- The Timer has completed a wait of a run (R128, R132); none where no wait can be outstanding. -/
def runWaited (s : State) : Option State :=
  match s.anim, s.ph with
  | .filling, .delayWait => some (delayDone s)
  | .paused, .pauseWait => some (pauseDone s)
  | _, _ => none

end Sys2Proof.Machine
end

