-- ==== Sys2Proof/Machine/Ports.lean ====
section
/-! DEFINITION. Ports.lean: a move of the Transport and a move of the Timer (42_transport_lifecycle.md R150, R151). The step
in which a port answers also performs the continuation of the command that issued the request. -/

namespace Sys2Proof.Machine

/-- What the command in progress does when its transport request `q` is answered with `r`; none in a control state that no
run reaches. -/
def continuation (q : PortRequest) (r : Response) (s : State) : Option State :=
  match q with
  | .openT _ _ => if s.curOp = some .openTransport then some (openAnswered r s) else none
  | .configureT _ _ => if s.curOp = some .configure then some (configureAnswered s) else none
  | .xfer _ =>
    if s.curOp = some .transmit then some (transmitAnswered r s)
    else if s.curOp = some .run then runAnswered r s
    else none
  | .closeT => if s.curOp = some .shutdown then some (shutdownAnswered s) else none
  | .wait _ => none

/-- A move of the Transport (R150). With no transport request outstanding there is nothing to answer and the response is
ignored (70_reset_and_hazards.md R191; log entry 10); a response that R150 does not list is refused. -/
def transportStep (r : Response) (s : State) : Host.Outcome State Fault Refusal :=
  match s.pending with
  | none => .next s
  | some (.wait _) => .next s
  | some q =>
    if r ∈ q.listed then
      match continuation q r (s.answer r) with
      | some t => .next t
      | none => .fault .noContinuation
    else .refused .responseNotListed

/-- A move of the Timer (R151). With no wait outstanding nothing completes. -/
def timerStep (s : State) : Host.Outcome State Fault Refusal :=
  match s.pending, s.curOp with
  | some (.wait _), some .run =>
    match runWaited (s.answer .done) with
    | some t => .next t
    | none => .fault .noContinuation
  | some (.wait _), _ => .fault .noContinuation
  | _, _ => .next s

end Sys2Proof.Machine
end

