-- ==== Sys2Proof/Machine/Dispatch.lean ====
section
/-! DEFINITION. Dispatch.lean: one arm per command: what an accepted CTRL word does in the step that accepts it, BUSY being
0 and the word legal (30_encoding.md R70, R71). -/

namespace Sys2Proof.Machine

def exec (i : Instr) (s : State) : Host.Outcome State Fault Refusal :=
  match i with
  | .nop => Sys2Proof.Machine.execNop s
  | .openTransport => Sys2Proof.Machine.execOpen s
  | .configure => Sys2Proof.Machine.execConfigure s
  | .encode => Sys2Proof.Machine.execEncode s
  | .genOff => Sys2Proof.Machine.execGenOff s
  | .genFill => Sys2Proof.Machine.execGenFill s
  | .transmit => Sys2Proof.Machine.execTransmit s
  | .run => Sys2Proof.Machine.execRun s
  | .shutdown => Sys2Proof.Machine.execShutdown s

end Sys2Proof.Machine
end

