-- ==== Sys2Proof/Machine/Flags.lean ====
section
/-! DEFINITION. Flags.lean: the codes of LC, AS and ERR, and the status registers as the host reads them. -/

namespace Sys2Proof.Machine

/-- STATUS[2:0] (10_state.md R21). -/
def Lifecycle.code : Lifecycle → BitVec 3
  | .unopened => 0
  | .opened => 1
  | .configured => 2
  | .released => 3
  | .startupFailed => 4

/-- STATUS[6:4] (10_state.md R22). -/
def Animator.code : Animator → BitVec 3
  | .idle => 0
  | .filling => 1
  | .allOff => 2
  | .paused => 3
  | .done => 4
  | .aborted => 5

/-- ERR[7:0] (60_exceptions.md R171). -/
def ErrCode.code : ErrCode → Byte
  | .ok => 0x00#8
  | .transportUnavailable => 0x01#8
  | .transportIoError => 0x02#8
  | .illegalCommand => 0x03#8
  | .badState => 0x04#8
  | .badArgument => 0x05#8

/-- STATUS as read: [31:9] 0, [8] BUSY, [7] 0, [6:4] AS, [3] 0, [2:0] LC (10_state.md R41). -/
def State.statusWord (s : State) : Word :=
  0#23 ++ BitVec.ofBool s.busy ++ 0#1 ++ s.anim.code ++ 0#1 ++ s.lc.code

/-- ERR as read: [31:8] 0, [7:0] CODE (10_state.md R29). -/
def State.errWord (s : State) : Word := s.err.code.setWidth 32

/-- LED_COUNT as read: [31:16] 0, [15:0] CFG.LED_COUNT (10_state.md R43). -/
def State.ledCountWord (s : State) : Word := (BitVec.ofNat 16 s.cfg.ledCount).setWidth 32

end Sys2Proof.Machine
end

