-- ==== Sys2Proof/Machine/Window.lean ====
section
/-! DEFINITION. Window.lean: the register window (10_state.md R44; 20_memory.md R50 to R56) and the CTRL write
(30_encoding.md R70, 60_exceptions.md R172). -/

namespace Sys2Proof.Machine

/-- The twelve registers of region REGS (10_state.md R44). -/
inductive Reg where
  | ctrl | status | err | ledCount | delay | reps | frameLen | fillIndex | outLen | xferCount | repCount | pos
  deriving DecidableEq, Repr

/-- The register at an offset of REGS (10_state.md R44). -/
def regAt : Nat → Option Reg
  | 0x000 => some .ctrl
  | 0x004 => some .status
  | 0x008 => some .err
  | 0x00C => some .ledCount
  | 0x010 => some .delay
  | 0x014 => some .reps
  | 0x018 => some .frameLen
  | 0x01C => some .fillIndex
  | 0x020 => some .outLen
  | 0x024 => some .xferCount
  | 0x028 => some .repCount
  | 0x02C => some .pos
  | _ => none

/-- What an aligned offset names. -/
inductive Place where
  | reg (r : Reg)
  | color (j : Nat)
  | outbuf (m : Nat)
  | unmapped
  deriving DecidableEq, Repr

/-- The regions of the window (20_memory.md R51). -/
def placeAt (c : Cfg) (a : Nat) : Place :=
  match regAt a with
  | some r => .reg r
  | none =>
    if colorBase ≤ a ∧ a < colorBase + 4 * c.ledCount then .color ((a - colorBase) / 4)
    else if outBase ≤ a ∧ a < outBase + 24 * c.ledCount then .outbuf ((a - outBase) / 4)
    else .unmapped

/-- The offset an address of the host's address space names, if it lies in the window (20_memory.md R50). -/
def offsetOfAddress (c : Cfg) (address : Nat) : Option Offset :=
  if c.base ≤ address ∧ address < c.base + 0x400000 then some (BitVec.ofNat 22 (address - c.base)) else none

/-- The address of an offset: BASE + offset (R50). -/
def addressOf (c : Cfg) (a : Offset) : Nat := c.base + a.toNat

/-- A register as the host reads it; CTRL has no stored value and reads 0 (10_state.md R42, R44). -/
def State.readReg (s : State) : Reg → Word
  | .ctrl => 0
  | .status => s.statusWord
  | .err => s.errWord
  | .ledCount => s.ledCountWord
  | .delay => s.delay
  | .reps => s.reps
  | .frameLen => s.frameLen
  | .fillIndex => s.fillIndex
  | .outLen => s.outLen
  | .xferCount => s.xferCount
  | .repCount => s.repCount
  | .pos => s.pos

/-- HostRead (20_memory.md R54): none where nothing is mapped. It has no effect. -/
def State.readPlace (s : State) : Place → Option Word
  | .reg r => some (s.readReg r)
  | .color j => some (wordOfColor (s.colorAt j))
  | .outbuf m => some (s.outWord m)
  | .unmapped => none

/-- A CTRL write (30_encoding.md R70): refused while BUSY, ILLEGAL_COMMAND for an illegal word, else the command; the
checks are in the order of 60_exceptions.md R172. -/
def command (v : Word) (s : State) : Host.Outcome State Fault Refusal :=
  if s.busy then .refused .ctrlWriteWhileBusy
  else
    match decode v with
    | .error _ => .next (s.takeError .illegalCommand)
    | .ok i => exec i s

/-- A write to a register other than CTRL: the four argument registers store it, a read-only register ignores it (R54). -/
def State.writeReg (v : Word) (s : State) : Reg → State
  | .delay => { s with delay := v }
  | .reps => { s with reps := v }
  | .frameLen => { s with frameLen := v }
  | .fillIndex => { s with fillIndex := v }
  | .ctrl | .status | .err | .ledCount | .outLen | .xferCount | .repCount | .pos => s

/-- HostWrite (20_memory.md R54). -/
def writePlace (v : Word) (s : State) : Place → Host.Outcome State Fault Refusal
  | .reg .ctrl => command v s
  | .reg r => .next (s.writeReg v r)
  | .color j => .next (s.writeColor j (colorOfWord v))
  | .outbuf _ => .next s
  | .unmapped => .refused .accessUnmapped

/-- Why an access is refused whatever the state: its width, then its alignment (20_memory.md R52; log entry 5). -/
def accessForm (a : Offset) (width : Width) : Option Refusal :=
  if width ≠ .w32 then some .accessWidth
  else if a.toNat % 4 ≠ 0 then some .accessMisaligned
  else none

/-- One host access (20_memory.md R52 to R54). -/
def hostStep (x : HostAccess) (s : State) : Host.Outcome State Fault Refusal :=
  match x with
  | .read a width =>
    match accessForm a width with
    | some r => .refused r
    | none =>
      match s.readPlace (placeAt s.cfg a.toNat) with
      | some v => .next (s.noteRead a v)
      | none => .refused .accessUnmapped
  | .write a width v =>
    match accessForm a width with
    | some r => .refused r
    | none => writePlace v s (placeAt s.cfg a.toNat)

/-- One move of one agent (00_scope.md R13), or a reset from outside (70_reset_and_hazards.md R191). -/
def moveStep (m : Move) (s : State) : Host.Outcome State Fault Refusal :=
  match m with
  | .host x => hostStep x s
  | .core => .next (coreStep s)
  | .transport r => transportStep r s
  | .timer => timerStep s
  | .reset => .next s.resetAgain

/-- The next move is taken from the schedule, then made. With no move to come no agent moves: a request that is never
answered hangs the block (70_reset_and_hazards.md R202; log entry 3). -/
def scheduledStep (s : State) : Host.Outcome State Fault Refusal :=
  match s.schedule with
  | [] => .next s
  | m :: rest => moveStep m { s with schedule := rest }

/-- `s` with a write of the command word `v` to CTRL as the very next move. -/
def State.withCommand (v : Word) (s : State) : State :=
  { s with schedule := .host (.write 0#22 .w32 v) :: s.schedule }

end Sys2Proof.Machine
end

