-- ==== Sys2Proof/Machine/Step.lean ====
section
/-! DEFINITION. Step.lean: one step of the model is one move of one agent (20_memory.md R59). -/

namespace Sys2Proof.Machine

/-- One step. -/
def step (s : State) : Host.Outcome State Fault Refusal := scheduledStep s

/-- `s` with a table row's command, `nbits` bits of `w`, as the very next step: the block fetches nothing, so the command is
a host write to CTRL (20_memory.md R62, 30_encoding.md R79; log entry 3). -/
def State.withFetchWord (s : State) (nbits w : Nat) : State := s.withCommand (BitVec.ofNat 32 (w % 2 ^ nbits))

end Sys2Proof.Machine
end

