-- ==== Sys2Proof/Safety.lean ====
section
/-! DEFINITION. Safety.lean: what claims about the block are stated in: its invariants (10_state.md R45), the host's duties
(60_exceptions.md R188), the lifecycle table (42_transport_lifecycle.md R158), the transition table (41_animator.md R137),
the closed forms of a run (R135, R136) and the fairness premises PortsLive (70_reset_and_hazards.md R202) and CoreLive. -/

namespace Sys2Proof.Machine

/-! The invariants of 10_state.md R45, with what makes them inductive. -/

/-- How many CLOSE requests HIST holds (R45 item 5). -/
def closeCount (h : List HistEntry) : Nat := h.countP (fun e => e.request == .closeT)

/-- AS between runs (R45 item 1). -/
def Animator.resting : Animator → Bool
  | .idle | .done | .aborted => true
  | .filling | .allOff | .paused => false

/-- The sequencer's control points while a run is in progress, with the request each one waits for (41_animator.md R125 to
R132). -/
inductive RunPoint (s : State) : Prop where
  | fillIssue (ha : s.anim = .filling) (hp : s.ph = .issue) (hq : s.pending = none)
  | fillSent (ha : s.anim = .filling) (hp : s.ph = .xferWait) (bs : List Byte) (hq : s.pending = some (.xfer bs))
  | fillDelay (ha : s.anim = .filling) (hp : s.ph = .delayWait) (hq : s.pending = some (.wait s.runDelay))
  | offIssue (ha : s.anim = .allOff) (hp : s.ph = .issue) (hq : s.pending = none)
  | offSent (ha : s.anim = .allOff) (hp : s.ph = .xferWait) (bs : List Byte) (hq : s.pending = some (.xfer bs))
  | pause (ha : s.anim = .paused) (hp : s.ph = .pauseWait) (hq : s.pending = some (.wait s.cfg.pauseDelay))

/-- What BUSY, CUR_OP, PENDING, PH, AS and LC say together: which command is in progress and what it waits for. -/
inductive Control (s : State) : Prop where
  /-- No command in progress (R45 item 1). -/
  | resting (hb : s.busy = false) (hc : s.curOp = none) (hq : s.pending = none) (hp : s.ph = .none)
      (ha : s.anim.resting = true)
  | opening (hb : s.busy = true) (hc : s.curOp = some .openTransport)
      (hq : s.pending = some (.openT s.cfg.bus s.cfg.device)) (hp : s.ph = .none) (ha : s.anim.resting = true)
      (hl : s.lc = .unopened)
  | configuring (hb : s.busy = true) (hc : s.curOp = some .configure)
      (hq : s.pending = some (.configureT s.cfg.clockHz s.cfg.spiMode)) (hp : s.ph = .none)
      (ha : s.anim.resting = true) (hl : s.lc = .opened)
  | transmitting (hb : s.busy = true) (hc : s.curOp = some .transmit) (bs : List Byte)
      (hq : s.pending = some (.xfer bs)) (hp : s.ph = .none) (ha : s.anim.resting = true) (hl : s.lc = .configured)
  | closing (hb : s.busy = true) (hc : s.curOp = some .shutdown) (hq : s.pending = some .closeT) (hp : s.ph = .none)
      (ha : s.anim.resting = true) (hl : s.lc = .opened ∨ s.lc = .configured)
  /-- A run in progress (R45 item 2); its repetitions are not all done. -/
  | running (hb : s.busy = true) (hc : s.curOp = some .run) (hl : s.lc = .configured) (hr : RunPoint s)
      (hn : s.repCount.toNat < s.runReps.toNat)

/-- How many CLOSE events HIST may hold in each lifecycle state: none before the transport is being closed, and never more
than one (R45 item 5, 42_transport_lifecycle.md R156). -/
def closesAllowed (s : State) : Prop :=
  match s.lc with
  | .released => closeCount s.hist ≤ 1
  | _ => closeCount s.hist = if s.curOp = some Instr.shutdown then 1 else 0

/-- Every request in HIST has its response, but for the newest one while it is outstanding (10_state.md R38, R39). -/
def histAnswered (s : State) : Prop :=
  match s.pending with
  | none => ∀ e ∈ s.hist, e.response.isSome
  | some q => ∃ h : List HistEntry, s.hist = h ++ [⟨q, none⟩] ∧ ∀ e ∈ h, e.response.isSome

/-- Where a stored byte may lie: one of the three stored bytes of a COLOR_RAM entry, or OUT below OUT_LEN. -/
def storedAt (s : State) (a : Nat) : Prop :=
  (colorBase ≤ a ∧ a < colorBase + 4 * s.cfg.ledCount ∧ (a - colorBase) % 4 ≠ 3) ∨
  (outBase ≤ a ∧ a < outBase + s.outLen.toNat)

/-- The invariant every step keeps. -/
structure Invariant (s : State) : Prop where
  /-- The configuration is a legal one (R20, 00_scope.md R7). -/
  cfgLegal : s.cfg.wf = true
  /-- R45 items 1 and 2. -/
  control : Control s
  /-- R45 item 3. -/
  outLenMultiple : s.outLen.toNat % 24 = 0
  /-- R45 item 3. -/
  outLenBound : s.outLen.toNat ≤ 24 * s.cfg.ledCount
  /-- R45 item 4. -/
  posBound : s.pos.toNat < s.cfg.ledCount
  /-- R45 item 5. -/
  closes : closesAllowed s
  /-- R38, R39. -/
  answered : histAnswered s
  /-- The memory keeps its canonical form. -/
  memWf : Memory.wf s.mem
  /-- It lists bytes of COLOR_RAM and of OUT below OUT_LEN only (R35, R36). -/
  memStored : ∀ x ∈ s.mem, storedAt s x.1
  /-- Every byte of OUT below OUT_LEN is one that was written (R35). -/
  outWritten : ∀ n, n < s.outLen.toNat → (s.mem.get? (outAddr n)).isSome = true

/-- 10_state.md R45, item by item as the rule has it. -/
structure InvariantsOfR45 (s : State) : Prop where
  item1 : s.busy = false →
    (s.anim = .idle ∨ s.anim = .done ∨ s.anim = .aborted) ∧ s.ph = .none ∧ s.pending = none ∧ s.curOp = none
  item2 : s.anim = .filling ∨ s.anim = .allOff ∨ s.anim = .paused →
    s.busy = true ∧ s.curOp = some .run ∧ s.lc = .configured
  item3 : s.outLen.toNat % 24 = 0 ∧ s.outLen.toNat ≤ 24 * s.cfg.ledCount
  item4 : s.pos.toNat < s.cfg.ledCount
  item5 : closeCount s.hist ≤ 1

/-- The states the block can be in: any construction that is not refused, and then any moves of the agents, in any order
(20_memory.md R59). -/
inductive Reachable : State → Prop where
  | constructed (c : Cfg) (s : State) (h : State.construct c = .next s) : Reachable s
  | moved (m : Move) (s t : State) (hs : Reachable s) (h : moveStep m s = .next t) : Reachable t
  | scheduled (ms : List Move) (s : State) (hs : Reachable s) : Reachable { s with schedule := ms }

/-! The lifecycle table (42_transport_lifecycle.md R158). -/

/-- "ok" (true) or "BAD_STATE" (false), row by row. -/
def lifecycleAllows : Lifecycle → Instr → Bool
  | _, .nop | _, .encode | _, .genOff | _, .genFill | _, .shutdown => true
  | .unopened, .openTransport => true
  | _, .openTransport => false
  | .opened, .configure => true
  | _, .configure => false
  | .configured, .transmit | .configured, .run => true
  | _, .transmit | _, .run => false

/-- The argument check of 60_exceptions.md R172 item 4: true where it passes. -/
def argumentOk (s : State) : Instr → Bool
  | .encode => decide (s.frameLen.toNat ≤ s.cfg.ledCount)
  | .genFill => decide (s.fillIndex.toNat < s.cfg.ledCount)
  | _ => true

/-- The lifecycle transitions that exist (R158): by OPEN, by CONFIGURE, by SHUTDOWN. SHUTDOWN takes STARTUP_FAILED to RELEASED
as R156's pseudocode, R158's table and list, and 95_test_vectors.md V34 and P6 have it; R158's last sentence and D23 are
read as: only a reset leaves the two states RELEASED and STARTUP_FAILED (DEDUCED, log entry 22). -/
def lifecycleMay : Lifecycle → Lifecycle → Bool
  | .unopened, .opened | .unopened, .startupFailed => true
  | .opened, .configured => true
  | _, .released => true
  | a, b => decide (a = b)

/-! The transition summary (41_animator.md R137), over (AS, PH), POS and REP_COUNT. -/

/-- One row of R137: the control point before a move of the run, the move, and the control point after. `issues` is the
port request the move puts on a port. -/
inductive Transition (s t : State) (m : Move) : Prop where
  | issueFill (h : s.anim = .filling ∧ s.ph = .issue ∧ m = .core) (h' : t.anim = .filling ∧ t.ph = .xferWait)
      (hp : t.pos = s.pos) (hr : t.repCount = s.repCount)
      (hq : t.pending = some (.xfer (encodeSeq s.cfg (fillFrame s.cfg s.pos.toNat))))
  | fillOk (h : s.anim = .filling ∧ s.ph = .xferWait ∧ m = .transport .ok) (h' : t.anim = .filling ∧ t.ph = .delayWait)
      (hp : t.pos = s.pos) (hr : t.repCount = s.repCount) (hq : t.pending = some (.wait s.runDelay))
  | fillFailed (h : s.anim = .filling ∧ s.ph = .xferWait ∧ m = .transport .ioError)
      (h' : t.anim = .aborted ∧ t.ph = .none) (hp : t.pos = s.pos) (hr : t.repCount = s.repCount)
      (hq : t.pending = none)
  | nextFill (h : s.anim = .filling ∧ s.ph = .delayWait ∧ m = .timer) (hn : s.pos.toNat + 1 < s.cfg.ledCount)
      (h' : t.anim = .filling ∧ t.ph = .issue) (hp : t.pos.toNat = s.pos.toNat + 1) (hr : t.repCount = s.repCount)
      (hq : t.pending = none)
  | lastFill (h : s.anim = .filling ∧ s.ph = .delayWait ∧ m = .timer) (hn : s.pos.toNat + 1 = s.cfg.ledCount)
      (h' : t.anim = .allOff ∧ t.ph = .issue) (hp : t.pos = s.pos) (hr : t.repCount = s.repCount)
      (hq : t.pending = none)
  | issueOff (h : s.anim = .allOff ∧ s.ph = .issue ∧ m = .core) (h' : t.anim = .allOff ∧ t.ph = .xferWait)
      (hp : t.pos = s.pos) (hr : t.repCount = s.repCount) (hq : t.pending = some (.xfer (offBuffer s.cfg)))
  | offPause (h : s.anim = .allOff ∧ s.ph = .xferWait ∧ m = .transport .ok)
      (hn : s.repCount.toNat + 1 < s.runReps.toNat) (h' : t.anim = .paused ∧ t.ph = .pauseWait) (hp : t.pos = s.pos)
      (hr : t.repCount.toNat = s.repCount.toNat + 1) (hq : t.pending = some (.wait s.cfg.pauseDelay))
  | offDone (h : s.anim = .allOff ∧ s.ph = .xferWait ∧ m = .transport .ok)
      (hn : s.repCount.toNat + 1 = s.runReps.toNat) (h' : t.anim = .done ∧ t.ph = .none) (hp : t.pos = s.pos)
      (hr : t.repCount = s.runReps) (hq : t.pending = none)
  | offFailed (h : s.anim = .allOff ∧ s.ph = .xferWait ∧ m = .transport .ioError)
      (h' : t.anim = .aborted ∧ t.ph = .none) (hp : t.pos = s.pos) (hr : t.repCount = s.repCount)
      (hq : t.pending = none)
  | again (h : s.anim = .paused ∧ s.ph = .pauseWait ∧ m = .timer) (h' : t.anim = .filling ∧ t.ph = .issue)
      (hp : t.pos = 0) (hr : t.repCount = s.repCount) (hq : t.pending = none)

/-! What a claim about a command that makes a buffer says. -/

/-- From `s` to `t`, OUT[0 .. k-1] and OUT_LEN became the buffer `bs` of k bytes, every byte below OUTBUF reads as before,
and no register, port or counter but those `rest` puts aside changed. OUT at index k or above is unspecified (10_state.md
R35), so nothing is said of it. `rest` undoes the changes a rule names beside OUT and OUT_LEN. -/
def madeBuffer (bs : List Byte) (s t : State) (rest : State → State) : Prop :=
  t.outLen.toNat = bs.length ∧
  (∀ (n : Nat) (h : n < bs.length), t.outByte n = bs[n]) ∧
  (∀ a, a < outBase → t.byteAt a = s.byteAt a) ∧
  { rest t with mem := s.mem, outLen := s.outLen, outDraw := s.outDraw } = s

/-! A run's moves and history, in closed form (41_animator.md R135, R136). -/

/-- `k` transfers that succeed, each followed by the wait after it. -/
def sentAndWaited (k : Nat) : List Move := (List.replicate k [.core, .transport .ok, .timer]).flatten

/-- The moves of the Core, the Transport and the Timer in a run whose transfers 1 to `k` succeed and whose transfer `k + 1`
answers `r` and is the last. -/
def runMoves (k : Nat) (r : Response) : List Move := sentAndWaited k ++ [.core, .transport r]

/-- What one repetition appends to HIST, all responses OK (R135). -/
def repetitionHist (c : Cfg) (d : Word) : List HistEntry :=
  (List.range c.ledCount).flatMap (fun i =>
    [⟨.xfer (encodeSeq c (fillFrame c i)), some .ok⟩, ⟨.wait d, some .done⟩]) ++ [⟨.xfer (offBuffer c), some .ok⟩]

/-- What a successful run of `r` repetitions with inter-step delay `d` appends to HIST (R135). -/
def runHist (c : Cfg) (d : Word) (r : Nat) : List HistEntry :=
  (List.range r).flatMap (fun rep =>
    repetitionHist c d ++ if rep + 1 < r then [⟨.wait c.pauseDelay, some .done⟩] else [])

/-- The buffer of a run's transfer number `g`, counting from 0: N fill frames, then the off buffer, over and over. -/
def runBuffer (c : Cfg) (g : Nat) : List Byte :=
  if g % (c.ledCount + 1) < c.ledCount then encodeSeq c (fillFrame c (g % (c.ledCount + 1))) else offBuffer c

/-- The wait that follows a run's transfer number `g`. -/
def runWait (c : Cfg) (d : Word) (g : Nat) : Word := if g % (c.ledCount + 1) < c.ledCount then d else c.pauseDelay

/-- What a run whose transfer number `k`, counting from 0, fails appends to HIST (R136). -/
def failedRunHist (c : Cfg) (d : Word) (k : Nat) : List HistEntry :=
  (List.range k).flatMap (fun g => [⟨.xfer (runBuffer c g), some .ok⟩, ⟨.wait (runWait c d g), some .done⟩]) ++
    [⟨.xfer (runBuffer c k), some .ioError⟩]

/-- How many bytes the transfers in HIST carry (R135). -/
def bytesSent (h : List HistEntry) : Nat :=
  (h.map (fun e =>
    match e.request with
    | .xfer bs => bs.length
    | _ => 0)).sum

/-- The last frame the strip received: the last XFER in HIST with response OK (60_exceptions.md R174). -/
def lastGoodFrame (h : List HistEntry) : Option (List Byte) :=
  h.foldl (fun acc e =>
    match e with
    | ⟨.xfer bs, some .ok⟩ => some bs
    | _ => acc) none

/-! Host duties and fairness. -/

/-- How many transfers HIST holds (10_state.md R37). -/
def xferCountIn (h : List HistEntry) : Nat :=
  h.countP (fun e =>
    match e.request with
    | .xfer _ => true
    | _ => false)

/-- The move is one that R150, R178 and R188 allow in this state: an aligned 32-bit access to a mapped offset, no CTRL write
while BUSY, a response from the list. Every reset is allowed, also one that breaks R191's duty to SHUTDOWN first (log
entry 25). -/
def moveAllowed (m : Move) (s : State) : Prop :=
  match m with
  | .host (.read a width) => width = .w32 ∧ a.toNat % 4 = 0 ∧ placeAt s.cfg a.toNat ≠ .unmapped
  | .host (.write a width _) =>
    width = .w32 ∧ a.toNat % 4 = 0 ∧ placeAt s.cfg a.toNat ≠ .unmapped ∧ (a = 0#22 → s.busy = false)
  | .transport r => ∀ q, s.pending = some q → (∀ d, q ≠ .wait d) → r ∈ q.listed
  | .core | .timer | .reset => True

/-- A move of the Host. -/
def Move.fromHost : Move → Bool
  | .host _ => true
  | .core | .transport _ | .timer | .reset => false

/-- What the Host may do at any point of a run (20_memory.md R59, 70_reset_and_hazards.md R199): an allowed access that is no
CTRL write. Nothing is asked of the other agents' moves. -/
def allowedDuringRun (c : Cfg) (m : Move) : Prop :=
  match m with
  | .host (.read a width) => width = .w32 ∧ a.toNat % 4 = 0 ∧ placeAt c a.toNat ≠ .unmapped
  | .host (.write a width _) => width = .w32 ∧ a.toNat % 4 = 0 ∧ placeAt c a.toNat ≠ .unmapped ∧ a ≠ 0#22
  | .core | .transport _ | .timer | .reset => True

/-- The launch premise of 70_reset_and_hazards.md R194; no rule reads it, and claims about what the LEDs show would need
it. -/
def launchPremise (s : State) : Prop := Config.TimingOK s.cfg.clockHz s.cfg.pulseHigh s.cfg.pulseLow

/-- The premise on the Transport of 60_exceptions.md R188: it streams each XFER's bytes back-to-back with no gaps. No rule
reads it, and claims about what reaches the LEDs would need it (log entry 24). -/
def transportPremise (s : State) : Prop :=
  ∀ (n : Nat) (e : HistEntry) (bs : List Byte), s.hist[n]? = some e → e.request = .xfer bs →
    Config.StreamedWithoutGaps n bs

/-- What a host-level claim takes as premise at the end of a host program, beside that no step was refused (R201): the
command has ended and, since the host owes a SHUTDOWN once OPEN has succeeded (60_exceptions.md R188), the transport is
released. DESIGN CHOICE (log entry 25): R201 is silent on an OPEN that succeeded before a reset; only an OPEN since the
last reset counts here, because a reset empties HIST (70_reset_and_hazards.md R190). -/
def endedCleanly (s : State) : Prop :=
  s.busy = false ∧ ((∃ e ∈ s.hist, e = ⟨.openT s.cfg.bus s.cfg.device, some .ok⟩) → s.lc = .released)

/-- The move serves the command in progress: the Core issues the transfer it owes, the Transport answers its request, the
Timer completes its wait. Which of the three is premised to come is said by PortsLive and CoreLive. -/
def serves (m : Move) (s : State) : Prop :=
  match m with
  | .core => s.curOp = some .run ∧ s.ph = .issue
  | .transport _ => ∃ q, s.pending = some q ∧ ∀ d, q ≠ .wait d
  | .timer => ∃ d, s.pending = some (.wait d)
  | .host _ | .reset => False

/-- PortsLive (70_reset_and_hazards.md R202), for an endless run of moves `ms` through states `ss`: the Transport answers every
request and the Timer completes every wait of a command in progress, in the end. -/
def PortsLive (ms : Nat → Move) (ss : Nat → State) : Prop :=
  ∀ n, (ss n).busy = true → (ss n).pending ≠ none → ∃ k, n ≤ k ∧ ms k ≠ .core ∧ serves (ms k) (ss k)

/-- The Core takes the transfer step it owes in PH = ISSUE, in the end. DESIGN CHOICE (log entry 23): R202 names the two ports
only, and 00_scope.md R13 and 20_memory.md R59 promise the Core no turn, so a claim that a run ends has this second
premise, the model's own. -/
def CoreLive (ms : Nat → Move) (ss : Nat → State) : Prop :=
  ∀ n, (ss n).busy = true → (ss n).pending = none → ∃ k, n ≤ k ∧ ms k = .core ∧ serves (ms k) (ss k)

end Sys2Proof.Machine
end

