-- ==== Sys2Proof/Certificates/Slice0/Obligations.lean ====
section
/-! DEFINITION. Obligations.lean: the statements for the provers. Each docstring names the rules of spec/ it formalises. In
all of them a command is what exec does in the step that accepts it, and a port's answer is the step of a Transport or
Timer move at the head of the schedule. -/

open Sys2Proof Sys2Proof.Machine

/-! Encoding. -/

/-- The opcode map (30_encoding.md R71), word by word, and four words that R72 calls illegal. -/
def Obligations.DecodesTheTableWords : Prop :=
  decode 0x00000000#32 = .ok .nop ∧ decode 0x00000001#32 = .ok .openTransport ∧
  decode 0x00000002#32 = .ok .configure ∧ decode 0x00000003#32 = .ok .encode ∧
  decode 0x00000004#32 = .ok .genOff ∧ decode 0x00000005#32 = .ok .genFill ∧
  decode 0x00000006#32 = .ok .transmit ∧ decode 0x00000007#32 = .ok .run ∧
  decode 0x00000008#32 = .ok .shutdown ∧
  decode 0x00000009#32 = .error .unknownOpcode ∧ decode 0x000000FF#32 = .error .unknownOpcode ∧
  decode 0x00000103#32 = .error .mustBeZero ∧ decode 0x80000000#32 = .error .mustBeZero

/-- Each command has exactly one word: a word decodes to a command exactly when it is that command's encoding, so decoding
an encoded command gives it back, and no bit of a word is dropped (R70, R71). -/
def Obligations.DecodeAndEncodeAgree : Prop :=
  (∀ (v : Word) (i : Instr), decode v = .ok i ↔ v = encode i) ∧ ∀ i : Instr, i.wellFormed = true → decode (encode i) = .ok i

/-- R72: a word with a bit of [31:8] set, or with OP 0x09 to 0xFF, writes ILLEGAL_COMMAND to ERR and does nothing else, and
no other word is illegal. -/
def Obligations.IllegalWordWritesOnlyErr : Prop :=
  (∀ (s : State) (v : Word) (rest : List Move),
    s.schedule = .host (.write 0x000#22 .w32 v) :: rest → s.busy = false →
    (v.extractLsb' 8 24 ≠ 0#24 ∨ 0x09 ≤ (v.extractLsb' 0 8).toNat) →
    step s = .next { s with err := .illegalCommand, schedule := rest }) ∧
  ∀ v : Word, v.extractLsb' 8 24 = 0#24 → (v.extractLsb' 0 8).toNat < 0x09 → ∃ i, decode v = .ok i

/-! The step and the CTRL write. -/

/-- R70: a CTRL write of a legal word while BUSY = 0 is the command, with the move taken from the schedule. -/
def Obligations.StepRunsTheDecodedCommand : Prop :=
  ∀ (s : State) (v : Word) (i : Instr) (rest : List Move),
    s.schedule = .host (.write 0x000#22 .w32 v) :: rest → s.busy = false → decode v = .ok i →
    step s = exec i { s with schedule := rest }

/-- R172's order of checks and R158's table, for a CTRL write of any value: refused while BUSY = 1; else ILLEGAL_COMMAND for
an illegal value; else, for the command it encodes, BAD_STATE where the lifecycle does not allow it, else BAD_ARGUMENT where
the argument check fails, each changing only ERR; else the command executes: it holds BUSY with ERR as it was, or is over
with ERR = OK. -/
def Obligations.ChecksComeInOrder : Prop :=
  ∀ (s : State) (v : Word) (rest : List Move), s.schedule = .host (.write 0x000#22 .w32 v) :: rest →
    (s.busy = true → step s = .refused .ctrlWriteWhileBusy) ∧
    (s.busy = false → v.extractLsb' 8 24 ≠ 0#24 ∨ (∀ i, opcode i ≠ v.extractLsb' 0 8) →
      step s = .next { s with err := .illegalCommand, schedule := rest }) ∧
    ∀ i, s.busy = false → v.extractLsb' 8 24 = 0#24 → opcode i = v.extractLsb' 0 8 →
      (lifecycleAllows s.lc i = false → step s = .next { s with err := .badState, schedule := rest }) ∧
      (lifecycleAllows s.lc i = true → argumentOk s i = false →
        step s = .next { s with err := .badArgument, schedule := rest }) ∧
      (lifecycleAllows s.lc i = true → argumentOk s i = true →
        ∃ t, step s = .next t ∧
          ((t.busy = true ∧ t.curOp = some i ∧ t.err = s.err) ∨
           (t.busy = false ∧ t.curOp = s.curOp ∧ t.err = .ok)))

/-! The commands, one statement each. -/

/-- R152: NOP writes ERR <- OK and nothing else, in every LC and AS; its word is 0x00000000. -/
def Obligations.NopWritesOnlyErr : Prop :=
  encode .nop = 0x00000000#32 ∧ ∀ s : State, exec .nop s = .next { s with err := .ok }

/-- R153: OPEN. Accepted only in UNOPENED; answered OK or UNAVAILABLE. -/
def Obligations.OpenFollowsItsRule : Prop :=
  encode .openTransport = 0x00000001#32 ∧
  (∀ s : State, s.lc = .unopened →
    exec .openTransport s = .next { s with
      busy := true
      curOp := some .openTransport
      pending := some (.openT s.cfg.bus s.cfg.device)
      hist := s.hist ++ [⟨.openT s.cfg.bus s.cfg.device, none⟩] }) ∧
  (∀ s : State, s.lc ≠ .unopened → exec .openTransport s = .next { s with err := .badState }) ∧
  (∀ (s : State) (h : List HistEntry) (rest : List Move) (b d : Word),
    s.curOp = some .openTransport → s.pending = some (.openT b d) → s.ph = .none →
    s.hist = h ++ [⟨.openT b d, none⟩] →
    (s.schedule = .transport .ok :: rest →
      step s = .next { s with
        lc := .opened, busy := false, curOp := none, pending := none, err := .ok
        hist := h ++ [⟨.openT b d, some .ok⟩], schedule := rest }) ∧
    (s.schedule = .transport .unavailable :: rest →
      step s = .next { s with
        lc := .startupFailed, busy := false, curOp := none, pending := none, err := .transportUnavailable
        hist := h ++ [⟨.openT b d, some .unavailable⟩], schedule := rest }))

/-- R154: CONFIGURE. Accepted only in OPENED; then answered OK. -/
def Obligations.ConfigureFollowsItsRule : Prop :=
  encode .configure = 0x00000002#32 ∧
  (∀ s : State, s.lc = .opened →
    exec .configure s = .next { s with
      busy := true
      curOp := some .configure
      pending := some (.configureT s.cfg.clockHz s.cfg.spiMode)
      hist := s.hist ++ [⟨.configureT s.cfg.clockHz s.cfg.spiMode, none⟩] }) ∧
  (∀ s : State, s.lc ≠ .opened → exec .configure s = .next { s with err := .badState }) ∧
  (∀ (s : State) (h : List HistEntry) (rest : List Move) (k m : Word),
    s.curOp = some .configure → s.pending = some (.configureT k m) → s.ph = .none →
    s.hist = h ++ [⟨.configureT k m, none⟩] → s.schedule = .transport .ok :: rest →
    step s = .next { s with
      lc := .configured, busy := false, curOp := none, pending := none, err := .ok
      hist := h ++ [⟨.configureT k m, some .ok⟩], schedule := rest })

/-- R111: ENCODE, in every LC. With FRAME_LEN = k at most LED_COUNT: OUT[0 .. 24k-1] is the encoding of COLOR_RAM[0 .. k-1],
OUT_LEN = 24k, ERR = OK, nothing else changes. Otherwise only ERR changes, to BAD_ARGUMENT. -/
def Obligations.EncodeFollowsItsRule : Prop :=
  encode .encode = 0x00000003#32 ∧
  (∀ s : State, s.cfg.wf = true → s.frameLen.toNat ≤ s.cfg.ledCount →
    ∃ t, exec .encode s = .next t ∧ t.err = .ok ∧ t.outLen.toNat = 24 * s.frameLen.toNat ∧
      madeBuffer (encodeSeq s.cfg ((List.range s.frameLen.toNat).map s.colorAt)) s t
        (fun u => { u with err := s.err })) ∧
  (∀ s : State, s.cfg.ledCount < s.frameLen.toNat → exec .encode s = .next { s with err := .badArgument })

/-- R112: GEN_OFF, in every LC. OUT[0 .. 24N-1] is 24N bytes of PULSE_LOW, OUT_LEN = 24N, ERR = OK, nothing else changes. -/
def Obligations.GenOffFollowsItsRule : Prop :=
  encode .genOff = 0x00000004#32 ∧
  (∀ s : State, s.cfg.wf = true →
    ∃ t, exec .genOff s = .next t ∧ t.err = .ok ∧ t.outLen.toNat = 24 * s.cfg.ledCount ∧
      madeBuffer (List.replicate (24 * s.cfg.ledCount) s.cfg.pulseLow) s t (fun u => { u with err := s.err }))

/-- R122: GEN_FILL, in every LC. With FILL_INDEX = i below LED_COUNT: OUT is the encoding of the first i + 1 colors of the
cycle, OUT_LEN = 24(i + 1), ERR = OK, nothing else changes. Otherwise only ERR changes, to BAD_ARGUMENT. -/
def Obligations.GenFillFollowsItsRule : Prop :=
  encode .genFill = 0x00000005#32 ∧
  (∀ s : State, s.cfg.wf = true → s.fillIndex.toNat < s.cfg.ledCount →
    ∃ t, exec .genFill s = .next t ∧ t.err = .ok ∧ t.outLen.toNat = 24 * (s.fillIndex.toNat + 1) ∧
      madeBuffer (encodeSeq s.cfg (fillFrame s.cfg s.fillIndex.toNat)) s t (fun u => { u with err := s.err })) ∧
  (∀ s : State, s.cfg.ledCount ≤ s.fillIndex.toNat → exec .genFill s = .next { s with err := .badArgument })

/-- R155: TRANSMIT. Accepted only in CONFIGURED: the request carries OUT[0 .. OUT_LEN-1], byte n at place n, and XFER_COUNT
counts it modulo 2^32; answered OK or IO_ERROR. -/
def Obligations.TransmitFollowsItsRule : Prop :=
  encode .transmit = 0x00000006#32 ∧
  (∀ s : State, s.lc = .configured →
    exec .transmit s = .next { s with
      busy := true
      curOp := some .transmit
      xferCount := s.xferCount + 1#32
      pending := some (.xfer ((List.range s.outLen.toNat).map s.outByte))
      hist := s.hist ++ [⟨.xfer ((List.range s.outLen.toNat).map s.outByte), none⟩] }) ∧
  (∀ s : State, s.lc ≠ .configured → exec .transmit s = .next { s with err := .badState }) ∧
  (∀ (s : State) (h : List HistEntry) (rest : List Move) (bs : List Byte),
    s.curOp = some .transmit → s.pending = some (.xfer bs) → s.ph = .none → s.hist = h ++ [⟨.xfer bs, none⟩] →
    (s.schedule = .transport .ok :: rest →
      step s = .next { s with
        busy := false, curOp := none, pending := none, err := .ok
        hist := h ++ [⟨.xfer bs, some .ok⟩], schedule := rest }) ∧
    (s.schedule = .transport .ioError :: rest →
      step s = .next { s with
        busy := false, curOp := none, pending := none, err := .transportIoError
        hist := h ++ [⟨.xfer bs, some .ioError⟩], schedule := rest }))

/-- R123 and R124: RUN, acceptance. Only in CONFIGURED; DELAY and REPS are latched, POS and REP_COUNT are 0. With REPS = 0
the run is DONE with OK at once and BUSY stays as it is. -/
def Obligations.RunIsAcceptedByItsRule : Prop :=
  encode .run = 0x00000007#32 ∧
  (∀ s : State, s.lc = .configured → s.reps ≠ 0#32 →
    exec .run s = .next { s with
      runDelay := s.delay, runReps := s.reps, pos := 0#32, repCount := 0#32
      busy := true, curOp := some .run, anim := .filling, ph := .issue }) ∧
  (∀ s : State, s.lc = .configured → s.reps = 0#32 →
    exec .run s = .next { s with
      runDelay := s.delay, runReps := s.reps, pos := 0#32, repCount := 0#32, anim := .done, err := .ok }) ∧
  (∀ s : State, s.lc ≠ .configured → exec .run s = .next { s with err := .badState })

/-- R156: SHUTDOWN. A CLOSE where the transport is held; LC = RELEASED with no CLOSE where nothing was acquired; nothing but
ERR after that. CLOSE is answered OK. -/
def Obligations.ShutdownFollowsItsRule : Prop :=
  encode .shutdown = 0x00000008#32 ∧
  (∀ s : State, s.lc = .opened ∨ s.lc = .configured →
    exec .shutdown s = .next { s with
      busy := true, curOp := some .shutdown, pending := some .closeT, hist := s.hist ++ [⟨.closeT, none⟩] }) ∧
  (∀ s : State, s.lc = .unopened ∨ s.lc = .startupFailed →
    exec .shutdown s = .next { s with lc := .released, err := .ok }) ∧
  (∀ s : State, s.lc = .released → exec .shutdown s = .next { s with err := .ok }) ∧
  (∀ (s : State) (h : List HistEntry) (rest : List Move),
    s.curOp = some .shutdown → s.pending = some .closeT → s.ph = .none → s.hist = h ++ [⟨.closeT, none⟩] →
    s.schedule = .transport .ok :: rest →
    step s = .next { s with
      lc := .released, busy := false, curOp := none, pending := none, err := .ok
      hist := h ++ [⟨.closeT, some .ok⟩], schedule := rest })

/-- The model's choice (log entry 10) about a response that R150 does not list for the outstanding request, which the spec
does not let the Transport give: such a move is refused by name. -/
def Obligations.UnlistedResponsesAreRefused : Prop :=
  ∀ (s : State) (rest : List Move) (r : Response) (q : PortRequest),
    s.pending = some q → s.schedule = .transport r :: rest →
    ((∃ b d, q = .openT b d) → r = .ioError ∨ r = .done → step s = .refused .responseNotListed) ∧
    ((∃ k m, q = .configureT k m) → r ≠ .ok → step s = .refused .responseNotListed) ∧
    ((∃ bs, q = .xfer bs) → r = .unavailable ∨ r = .done → step s = .refused .responseNotListed) ∧
    (q = .closeT → r ≠ .ok → step s = .refused .responseNotListed)

/-! The sequencer's steps. -/

/-- R125: in Filling(i) the Core places the encoded fill frame of step i in OUT and transfers it. -/
def Obligations.FillStepIssuesItsFrame : Prop :=
  ∀ (s : State) (rest : List Move),
    s.cfg.wf = true → s.pos.toNat < s.cfg.ledCount → s.curOp = some .run → s.anim = .filling → s.ph = .issue →
    s.schedule = .core :: rest →
    ∃ t, step s = .next t ∧ t.outLen.toNat = 24 * (s.pos.toNat + 1) ∧ t.xferCount = s.xferCount + 1#32 ∧
      t.pending = some (.xfer (encodeSeq s.cfg (fillFrame s.cfg s.pos.toNat))) ∧
      t.hist = s.hist ++ [⟨.xfer (encodeSeq s.cfg (fillFrame s.cfg s.pos.toNat)), none⟩] ∧ t.ph = .xferWait ∧
      madeBuffer (encodeSeq s.cfg (fillFrame s.cfg s.pos.toNat)) { s with schedule := rest } t
        (fun u => { u with xferCount := s.xferCount, pending := s.pending, hist := s.hist, ph := s.ph })

/-- R126 and R127: in Filling(i), a transfer answered OK is followed by the wait RUN_DELAY, also after the last frame and
also when RUN_DELAY is 0; answered IO_ERROR it aborts the run, with POS and OUT kept and nothing more issued. -/
def Obligations.FillStepAnswered : Prop :=
  ∀ (s : State) (h : List HistEntry) (rest : List Move) (bs : List Byte),
    s.curOp = some .run → s.anim = .filling → s.ph = .xferWait → s.pending = some (.xfer bs) →
    s.hist = h ++ [⟨.xfer bs, none⟩] →
    (s.schedule = .transport .ok :: rest →
      step s = .next { s with
        pending := some (.wait s.runDelay), ph := .delayWait
        hist := h ++ [⟨.xfer bs, some .ok⟩, ⟨.wait s.runDelay, none⟩], schedule := rest }) ∧
    (s.schedule = .transport .ioError :: rest →
      step s = .next { s with
        anim := .aborted, pending := none, ph := .none, curOp := none, busy := false, err := .transportIoError
        hist := h ++ [⟨.xfer bs, some .ioError⟩], schedule := rest })

/-- R128: the inter-step wait over, POS moves to the next fill step, or, after the last, AS moves to ALLOFF. -/
def Obligations.FillDelayLeadsOn : Prop :=
  ∀ (s : State) (h : List HistEntry) (rest : List Move) (d : Word),
    s.curOp = some .run → s.anim = .filling → s.ph = .delayWait → s.pending = some (.wait d) →
    s.hist = h ++ [⟨.wait d, none⟩] → s.schedule = .timer :: rest →
    (s.pos.toNat + 1 < s.cfg.ledCount →
      step s = .next { s with
        pending := none, pos := s.pos + 1#32, ph := .issue
        hist := h ++ [⟨.wait d, some .done⟩], schedule := rest }) ∧
    (s.cfg.ledCount ≤ s.pos.toNat + 1 →
      step s = .next { s with
        pending := none, anim := .allOff, ph := .issue
        hist := h ++ [⟨.wait d, some .done⟩], schedule := rest })

/-- R129: in AllOff the Core places the off buffer of the whole strip in OUT and transfers it. -/
def Obligations.AllOffIssuesTheOffBuffer : Prop :=
  ∀ (s : State) (rest : List Move),
    s.cfg.wf = true → s.curOp = some .run → s.anim = .allOff → s.ph = .issue → s.schedule = .core :: rest →
    ∃ t, step s = .next t ∧ t.outLen.toNat = 24 * s.cfg.ledCount ∧ t.xferCount = s.xferCount + 1#32 ∧
      t.pending = some (.xfer (List.replicate (24 * s.cfg.ledCount) s.cfg.pulseLow)) ∧
      t.hist = s.hist ++ [⟨.xfer (List.replicate (24 * s.cfg.ledCount) s.cfg.pulseLow), none⟩] ∧ t.ph = .xferWait ∧
      madeBuffer (List.replicate (24 * s.cfg.ledCount) s.cfg.pulseLow) { s with schedule := rest } t
        (fun u => { u with xferCount := s.xferCount, pending := s.pending, hist := s.hist, ph := s.ph })

/-- R130, R131 and R133: in AllOff, a transfer answered OK counts a repetition modulo 2^32 and then pauses for PAUSE_DELAY
if more remain, or ends the run in DONE with OK; answered IO_ERROR it ends the run in ABORTED with TRANSPORT_IO_ERROR, with
REP_COUNT as it was. -/
def Obligations.AllOffAnswered : Prop :=
  ∀ (s : State) (h : List HistEntry) (rest : List Move) (bs : List Byte),
    s.curOp = some .run → s.anim = .allOff → s.ph = .xferWait → s.pending = some (.xfer bs) →
    s.hist = h ++ [⟨.xfer bs, none⟩] →
    (s.schedule = .transport .ok :: rest → (s.repCount + 1#32).toNat < s.runReps.toNat →
      step s = .next { s with
        repCount := s.repCount + 1#32, anim := .paused, ph := .pauseWait, pending := some (.wait s.cfg.pauseDelay)
        hist := h ++ [⟨.xfer bs, some .ok⟩, ⟨.wait s.cfg.pauseDelay, none⟩], schedule := rest }) ∧
    (s.schedule = .transport .ok :: rest → s.runReps.toNat ≤ (s.repCount + 1#32).toNat →
      step s = .next { s with
        repCount := s.repCount + 1#32, anim := .done, pending := none, ph := .none, curOp := none, busy := false
        err := .ok, hist := h ++ [⟨.xfer bs, some .ok⟩], schedule := rest }) ∧
    (s.schedule = .transport .ioError :: rest →
      step s = .next { s with
        anim := .aborted, pending := none, ph := .none, curOp := none, busy := false, err := .transportIoError
        hist := h ++ [⟨.xfer bs, some .ioError⟩], schedule := rest })

/-- R132: the pause over, the run starts its next repetition at Filling(0). -/
def Obligations.PauseLeadsBackToFirstFill : Prop :=
  ∀ (s : State) (h : List HistEntry) (rest : List Move) (d : Word),
    s.curOp = some .run → s.anim = .paused → s.ph = .pauseWait → s.pending = some (.wait d) →
    s.hist = h ++ [⟨.wait d, none⟩] → s.schedule = .timer :: rest →
    step s = .next { s with
      pending := none, pos := 0#32, anim := .filling, ph := .issue
      hist := h ++ [⟨.wait d, some .done⟩], schedule := rest }

/-- R137: during a run, a move that serves it is one row of the transition table, and every other move but a reset leaves
the control point (AS, PH, POS, REP_COUNT) alone; outside a run, only an accepted RUN changes AS or PH. -/
def Obligations.SequencerFollowsTheTransitionTable : Prop :=
  (∀ (s t : State) (m : Move) (rest : List Move),
    Invariant s → s.curOp = some .run → s.schedule = m :: rest → m ≠ .reset → step s = .next t →
    (serves m s → Transition s t m) ∧
    (¬ serves m s → t.anim = s.anim ∧ t.ph = s.ph ∧ t.pos = s.pos ∧ t.repCount = s.repCount)) ∧
  (∀ (s t : State) (m : Move) (rest : List Move),
    Invariant s → s.curOp ≠ some .run → s.schedule = m :: rest → m ≠ .reset → step s = .next t →
    (t.anim = s.anim ∧ t.ph = s.ph ∧ t.pos = s.pos ∧ t.repCount = s.repCount) ∨
    (m = .host (.write 0x000#22 .w32 0x00000007#32) ∧ s.busy = false ∧ s.lc = .configured ∧ t.pos = 0#32 ∧
      t.repCount = 0#32 ∧ t.pending = none ∧
      ((s.reps = 0#32 ∧ t.anim = .done ∧ t.ph = .none) ∨ (s.reps ≠ 0#32 ∧ t.anim = .filling ∧ t.ph = .issue))))

/-! The encoder. -/

/-- R101 to R104: a bit is one pattern byte; a channel is its eight bits, most significant first; a color is its channels in
the order G, R, B, 24 bytes. -/
def Obligations.ColorEncodingOrder : Prop :=
  ∀ (c : Cfg) (x : Color),
    channelsGRB x = [x.g, x.r, x.b] ∧
    encColor c x = encChannel c x.g ++ encChannel c x.r ++ encChannel c x.b ∧ (encColor c x).length = 24 ∧
    ∀ v : Byte, encChannel c v =
      [encBit c (v.getLsbD 7), encBit c (v.getLsbD 6), encBit c (v.getLsbD 5), encBit c (v.getLsbD 4),
       encBit c (v.getLsbD 3), encBit c (v.getLsbD 2), encBit c (v.getLsbD 1), encBit c (v.getLsbD 0)] ∧
      encBit c true = c.pulseHigh ∧ encBit c false = c.pulseLow

/-- R106: bit k of channel slot s (0 = G, 1 = R, 2 = B) of color j is byte 24j + 8s + (7 - k) of the buffer, and (R105) the
buffer has 24 bytes a color. -/
def Obligations.LaneMapping : Prop :=
  ∀ (c : Cfg) (xs : List Color),
    (encodeSeq c xs).length = 24 * xs.length ∧
    ∀ (j : Nat) (hj : j < xs.length) (slot : Nat) (hs : slot < 3) (k : Nat), k < 8 →
      (encodeSeq c xs)[24 * j + 8 * slot + (7 - k)]? =
        some (if ([xs[j].g, xs[j].r, xs[j].b][slot]).getLsbD k then c.pulseHigh else c.pulseLow)

/-- R108: decoding is defined exactly on the buffers of a length that is a multiple of 24 whose every byte is one of the two
patterns; and with PULSE_HIGH different from PULSE_LOW it is the inverse of encoding. -/
def Obligations.DecodingInvertsEncoding : Prop :=
  ∀ (c : Cfg) (bs : List Byte),
    ((∃ xs, decodeBuffer c bs = some xs) ↔ bs.length % 24 = 0 ∧ ∀ b ∈ bs, b = c.pulseHigh ∨ b = c.pulseLow) ∧
    (c.pulseHigh ≠ c.pulseLow → ∀ xs, decodeBuffer c bs = some xs ↔ bs = encodeSeq c xs)

/-- R107: the off buffer is 24N bytes of PULSE_LOW, which is the encoding of N black colors. -/
def Obligations.OffBufferIsEncodedBlack : Prop :=
  ∀ c : Cfg, offBuffer c = List.replicate (24 * c.ledCount) c.pulseLow ∧
    offBuffer c = encodeSeq c (List.replicate c.ledCount ⟨0#8, 0#8, 0#8⟩)

/-- R120 and R121: the fill frame of step i has i + 1 colors, and color j is red, green or blue by j mod 3. -/
def Obligations.FillFrameCyclesRedGreenBlue : Prop :=
  ∀ (c : Cfg) (i : Nat), (fillFrame c i).length = i + 1 ∧
    ∀ j, j ≤ i → (fillFrame c i)[j]? = [c.colorRed, c.colorGreen, c.colorBlue][j % 3]?

/-- R109, R113 item 4: two ENCODEs with the same parameters, FRAME_LEN and colors give the same OUT and OUT_LEN, whatever
else differs. -/
def Obligations.EncodeDependsOnItsOperandsOnly : Prop :=
  ∀ s s' : State, s.cfg.wf = true → s'.cfg = s.cfg → s'.frameLen = s.frameLen →
    s.frameLen.toNat ≤ s.cfg.ledCount → (∀ j, j < s.frameLen.toNat → s'.colorAt j = s.colorAt j) →
    ∃ t t', exec .encode s = .next t ∧ exec .encode s' = .next t' ∧ t'.outLen = t.outLen ∧ t'.outBytes = t.outBytes ∧
      t'.err = t.err

/-! The register window. -/

/-- R44, R54: what a read of each offset returns; a read changes nothing but the Host's record of it. -/
def Obligations.ReadsReturnTheRegisterMap : Prop :=
  ∀ (s : State) (a : Offset) (rest : List Move), s.schedule = .host (.read a .w32) :: rest →
    let gives := fun (v : Word) => step s = .next { s with reads := s.reads ++ [(a, v)], schedule := rest }
    (a = 0x000#22 → gives 0#32) ∧ (a = 0x004#22 → gives s.statusWord) ∧ (a = 0x008#22 → gives s.errWord) ∧
    (a = 0x00C#22 → gives s.ledCountWord) ∧ (a = 0x010#22 → gives s.delay) ∧ (a = 0x014#22 → gives s.reps) ∧
    (a = 0x018#22 → gives s.frameLen) ∧ (a = 0x01C#22 → gives s.fillIndex) ∧ (a = 0x020#22 → gives s.outLen) ∧
    (a = 0x024#22 → gives s.xferCount) ∧ (a = 0x028#22 → gives s.repCount) ∧ (a = 0x02C#22 → gives s.pos) ∧
    (∀ j, j < s.cfg.ledCount → s.cfg.ledCount ≤ 65535 → a.toNat = 0x040000 + 4 * j →
      gives (0#8 ++ (s.colorAt j).r ++ (s.colorAt j).g ++ (s.colorAt j).b)) ∧
    (∀ m, 4 * m < 24 * s.cfg.ledCount → s.cfg.ledCount ≤ 65535 → a.toNat = 0x200000 + 4 * m →
      gives (s.outByte (4 * m + 3) ++ s.outByte (4 * m + 2) ++ s.outByte (4 * m + 1) ++ s.outByte (4 * m)))

/-- R21, R22, R171: the codes; R29, R41, R43: the fields of STATUS, ERR and LED_COUNT as read, reserved bits 0. -/
def Obligations.StatusRegistersHaveTheirFields : Prop :=
  (Lifecycle.unopened.code = 0#3 ∧ Lifecycle.opened.code = 1#3 ∧ Lifecycle.configured.code = 2#3 ∧
    Lifecycle.released.code = 3#3 ∧ Lifecycle.startupFailed.code = 4#3) ∧
  (Animator.idle.code = 0#3 ∧ Animator.filling.code = 1#3 ∧ Animator.allOff.code = 2#3 ∧ Animator.paused.code = 3#3 ∧
    Animator.done.code = 4#3 ∧ Animator.aborted.code = 5#3) ∧
  (ErrCode.ok.code = 0x00#8 ∧ ErrCode.transportUnavailable.code = 0x01#8 ∧ ErrCode.transportIoError.code = 0x02#8 ∧
    ErrCode.illegalCommand.code = 0x03#8 ∧ ErrCode.badState.code = 0x04#8 ∧ ErrCode.badArgument.code = 0x05#8) ∧
  ∀ s : State,
    s.statusWord.extractLsb' 0 3 = s.lc.code ∧ s.statusWord.extractLsb' 3 1 = 0#1 ∧
    s.statusWord.extractLsb' 4 3 = s.anim.code ∧ s.statusWord.extractLsb' 7 1 = 0#1 ∧
    s.statusWord.extractLsb' 8 1 = BitVec.ofBool s.busy ∧ s.statusWord.extractLsb' 9 23 = 0#23 ∧
    s.errWord.extractLsb' 0 8 = s.err.code ∧ s.errWord.extractLsb' 8 24 = 0#24 ∧
    s.ledCountWord.extractLsb' 16 16 = 0#16 ∧ (s.cfg.wf = true → s.ledCountWord.toNat = s.cfg.ledCount)

/-- R54: reads are idempotent. However many reads stand between two reads of one offset, with no write and no other agent's
move, the second gives the Host the value of the first. -/
def Obligations.ReadsAreIdempotent : Prop :=
  ∀ (s t : State) (a : Offset) (between : List Offset) (rest : List Move),
    core.run (between.length + 2)
      { s with schedule := (a :: between ++ [a]).map (fun b => .host (.read b .w32)) ++ rest } = .next t →
    ∃ (v : Word) (vs : List (Offset × Word)), vs.map (·.1) = between ∧
      t = { s with reads := s.reads ++ (a, v) :: vs ++ [(a, v)], schedule := rest }

/-- R54: a write stores in the four argument registers, in any state, BUSY or not; a write to a read-only register or to
OUTBUF is ignored. -/
def Obligations.WritesFollowTheAccessRights : Prop :=
  ∀ (s : State) (a : Offset) (v : Word) (rest : List Move), s.schedule = .host (.write a .w32 v) :: rest →
    (a = 0x010#22 → step s = .next { s with delay := v, schedule := rest }) ∧
    (a = 0x014#22 → step s = .next { s with reps := v, schedule := rest }) ∧
    (a = 0x018#22 → step s = .next { s with frameLen := v, schedule := rest }) ∧
    (a = 0x01C#22 → step s = .next { s with fillIndex := v, schedule := rest }) ∧
    (a ∈ [0x004#22, 0x008#22, 0x00C#22, 0x020#22, 0x024#22, 0x028#22, 0x02C#22] →
      step s = .next { s with schedule := rest }) ∧
    (∀ m, 4 * m < 24 * s.cfg.ledCount → s.cfg.ledCount ≤ 65535 → a.toNat = 0x200000 + 4 * m →
      step s = .next { s with schedule := rest })

/-- R54, R75: a write of COLOR_RAM[j] stores R, G and B and drops [31:24]; reading the entry back gives the word with
[31:24] zero; every other byte of COLOR_RAM and OUT reads as before, and nothing else changes. -/
def Obligations.ColorWriteStoresOneEntry : Prop :=
  ∀ (s : State) (a : Offset) (v : Word) (j : Nat) (rest : List Move),
    s.schedule = .host (.write a .w32 v) :: rest → Memory.wf s.mem → s.cfg.ledCount ≤ 65535 → j < s.cfg.ledCount →
    a.toNat = 0x040000 + 4 * j →
    ∃ t, step s = .next t ∧
      t.colorAt j = ⟨v.extractLsb' 16 8, v.extractLsb' 8 8, v.extractLsb' 0 8⟩ ∧
      t.readPlace (.color j) = some (v &&& 0x00FFFFFF#32) ∧
      (∀ x, x ≠ colorAddr j 0 → x ≠ colorAddr j 1 → x ≠ colorAddr j 2 → t.byteAt x = s.byteAt x) ∧
      Memory.wf t.mem ∧ { t with mem := s.mem } = { s with schedule := rest }

/-- R51, R52, R53: an access of another width, a misaligned one and one to an unmapped offset are refused by name, read or
write; every other read answers next. -/
def Obligations.IllFormedAccessesAreRefused : Prop :=
  ∀ (s : State) (a : Offset) (w : Width) (v : Word) (rest : List Move) (x : HostAccess),
    x = .read a w ∨ x = .write a w v → s.schedule = .host x :: rest →
    (w ≠ .w32 → step s = .refused .accessWidth) ∧
    (w = .w32 → a.toNat % 4 ≠ 0 → step s = .refused .accessMisaligned) ∧
    (w = .w32 → a.toNat % 4 = 0 → 0x000030 ≤ a.toNat →
      ¬ (0x040000 ≤ a.toNat ∧ a.toNat < 0x040000 + 4 * s.cfg.ledCount) →
      ¬ (0x200000 ≤ a.toNat ∧ a.toNat < 0x200000 + 24 * s.cfg.ledCount) → step s = .refused .accessUnmapped) ∧
    (x = .read a .w32 → a.toNat % 4 = 0 →
      (a.toNat < 0x000030 ∨ (0x040000 ≤ a.toNat ∧ a.toNat < 0x040000 + 4 * s.cfg.ledCount) ∨
        (0x200000 ≤ a.toNat ∧ a.toNat < 0x200000 + 24 * s.cfg.ledCount)) → ∃ t, step s = .next t)

/-- R50: the address of an offset is BASE + offset, every address of the 4 MiB window names one offset, and no other address
names any. -/
def Obligations.WindowStandsAtBase : Prop :=
  ∀ (c : Cfg) (address : Nat) (a : Offset),
    addressOf c a = c.base + a.toNat ∧ (offsetOfAddress c address = some a ↔ address = addressOf c a) ∧
    ((∃ b, offsetOfAddress c address = some b) ↔ c.base ≤ address ∧ address < c.base + 0x400000)

/-! The whole machine. -/

/-- The state after reset meets the invariant. -/
def Obligations.ResetMeetsTheInvariant : Prop := Invariant State.reset

/-- R45 and more: every step that answers next keeps the invariant. -/
def Obligations.EveryStepKeepsTheInvariant : Prop := ∀ s t : State, Invariant s → step s = .next t → Invariant t

/-- R45: every state the block can reach, by any moves in any order from any construction, has the rule's five items. -/
def Obligations.EveryReachableStateMeetsR45 : Prop := ∀ s : State, Reachable s → InvariantsOfR45 s

/-- R188: where the invariant holds and the next move is one the host's and the Transport's duties allow, the step answers
next: nothing faults and nothing is refused. -/
def Obligations.DutifulMovesNeverStop : Prop :=
  ∀ s : State, Invariant s → (∀ m rest, s.schedule = m :: rest → moveAllowed m s) → ∃ t, step s = .next t

/-- R20: no step changes the configuration. -/
def Obligations.ConfigurationNeverChanges : Prop := ∀ s t : State, step s = .next t → t.cfg = s.cfg

/-- R20, U3, U4: construction refuses a LED_COUNT of 0 or above 65535 and gives the reset state otherwise; that equal pulse
patterns are refused too is the model's choice (log entry 13). -/
def Obligations.ConstructionChecksTheConfiguration : Prop :=
  ∀ c : Cfg,
    ((c.ledCount = 0 ∨ 65535 < c.ledCount) → State.construct c = .refused .illegalConfiguration) ∧
    (c.pulseHigh = c.pulseLow → State.construct c = .refused .illegalConfiguration) ∧
    (1 ≤ c.ledCount → c.ledCount ≤ 65535 → c.pulseHigh ≠ c.pulseLow → State.construct c = .next (State.resetWith c))

/-- R158's list of transitions: every step but a reset leaves LC or follows one of them. That SHUTDOWN may take STARTUP_FAILED
to RELEASED is R156's pseudocode and R158's own table; R158's last sentence is read (DEDUCED, log entry 22) as the last two
clauses here: only a reset leaves RELEASED, and only a reset leaves the pair RELEASED and STARTUP_FAILED. -/
def Obligations.LifecycleTransitionsAreThoseOfTheTable : Prop :=
  ∀ (s t : State), Invariant s → (∀ rest, s.schedule ≠ .reset :: rest) → step s = .next t →
    lifecycleMay s.lc t.lc = true ∧ (s.lc = .released → t.lc = .released) ∧
    (s.lc = .startupFailed → t.lc = .startupFailed ∨ t.lc = .released)

/-- R134: a step of the Core, the Transport or the Timer during a run leaves CFG, LC, the four argument registers, the
latched arguments and every byte below OUTBUF, keeps every request of HIST, and adds only transfers and waits. -/
def Obligations.RunWritesOnlyItsOwnState : Prop :=
  ∀ (s t : State) (m : Move) (rest : List Move),
    Invariant s → s.curOp = some .run → s.schedule = m :: rest → (m = .core ∨ (∃ r, m = .transport r) ∨ m = .timer) →
    step s = .next t →
    t.cfg = s.cfg ∧ t.lc = s.lc ∧ t.delay = s.delay ∧ t.reps = s.reps ∧ t.frameLen = s.frameLen ∧
    t.fillIndex = s.fillIndex ∧ t.runDelay = s.runDelay ∧ t.runReps = s.runReps ∧ t.reads = s.reads ∧
    (∀ a, a < outBase → t.byteAt a = s.byteAt a) ∧
    ∃ qs, t.hist.map (·.request) = s.hist.map (·.request) ++ qs ∧
      ∀ q ∈ qs, (∃ bs, q = .xfer bs) ∨ ∃ d, q = .wait d

/-- R36: nothing but the Host's own write to COLOR_RAM, and a reset, changes a byte of COLOR_RAM. -/
def Obligations.OnlyTheHostWritesColorRam : Prop :=
  ∀ (s t : State), step s = .next t → (∀ rest, s.schedule ≠ .reset :: rest) →
    (∀ a v rest j, s.schedule = .host (.write a .w32 v) :: rest → placeAt s.cfg a.toNat ≠ .color j) →
    ∀ a, a < outBase → t.byteAt a = s.byteAt a

/-- R35: four things write OUT and OUT_LEN. Every step that is no reset, no CTRL write of ENCODE, GEN_OFF or GEN_FILL, and no
Core move of a run in PH = ISSUE, leaves OUT_LEN and every byte of OUT as they were, whatever it is otherwise. -/
def Obligations.OnlyFourThingsWriteOut : Prop :=
  ∀ (s t : State), Invariant s → step s = .next t → (∀ rest, s.schedule ≠ .reset :: rest) →
    (∀ v rest, s.schedule = .host (.write 0x000#22 .w32 v) :: rest →
      decode v ≠ .ok .encode ∧ decode v ≠ .ok .genOff ∧ decode v ≠ .ok .genFill) →
    (∀ rest, s.schedule = .core :: rest → ¬ (s.curOp = some .run ∧ s.ph = .issue)) →
    t.outLen = s.outLen ∧ ∀ n, t.outByte n = s.outByte n

/-- R29, R195: where a step other than a reset changes ERR, a command has completed or is rejected: BUSY is 0 afterwards with
nothing outstanding, and the step is the Transport's answer to the outstanding request of a command in progress, or a CTRL
write while BUSY = 0. -/
def Obligations.ErrIsWrittenOnCompletionOnly : Prop :=
  ∀ (s t : State), Invariant s → step s = .next t → (∀ rest, s.schedule ≠ .reset :: rest) → t.err ≠ s.err →
    t.busy = false ∧ t.pending = none ∧
    ((s.busy = true ∧ ∃ r rest q, s.schedule = .transport r :: rest ∧ s.pending = some q ∧ ∀ d, q ≠ .wait d) ∨
     (s.busy = false ∧ ∃ v rest, s.schedule = .host (.write 0x000#22 .w32 v) :: rest))

/-- R26, R27, R196: during a run nothing but a reset changes the latched arguments, and the Host's writes to DELAY and REPS
do not. -/
def Obligations.RunArgumentsAreLatched : Prop :=
  ∀ (s t : State), s.busy = true → (∀ rest, s.schedule ≠ .reset :: rest) → step s = .next t →
    t.runDelay = s.runDelay ∧ t.runReps = s.runReps

/-- R37: XFER_COUNT grows with the transfers in HIST, modulo 2^32, in every step but a reset. -/
def Obligations.XferCountCountsTransfers : Prop :=
  ∀ (s t : State), step s = .next t → (∀ rest, s.schedule ≠ .reset :: rest) →
    ∃ k, k ≤ 1 ∧ xferCountIn t.hist = xferCountIn s.hist + k ∧ t.xferCount = s.xferCount + BitVec.ofNat 32 k

/-- R174: an IO_ERROR ends the command with LC still CONFIGURED and nothing outstanding, and leaves the last good frame; a
transfer answered OK becomes the last good frame. -/
def Obligations.IoErrorKeepsTheLastGoodFrame : Prop :=
  ∀ (s : State) (bs : List Byte) (rest : List Move), Invariant s → s.pending = some (.xfer bs) →
    (s.schedule = .transport .ioError :: rest →
      ∃ t, step s = .next t ∧ lastGoodFrame t.hist = lastGoodFrame s.hist ∧ t.lc = .configured ∧
        t.err = .transportIoError ∧ t.busy = false ∧ t.pending = none ∧ t.xferCount = s.xferCount ∧
        (s.curOp = some .run → t.anim = .aborted) ∧ (s.curOp ≠ some .run → t.anim = s.anim)) ∧
    (s.schedule = .transport .ok :: rest → ∃ t, step s = .next t ∧ lastGoodFrame t.hist = some bs)

/-- 90_conflicts.md C1, R45 item 5, R156: where the transport is held and not yet closed, SHUTDOWN and its answer put exactly
one CLOSE into HIST, and a second SHUTDOWN adds none. -/
def Obligations.TransportIsClosedExactlyOnce : Prop :=
  ∀ (s : State) (rest : List Move), Invariant s → s.busy = false → s.lc = .opened ∨ s.lc = .configured →
    ∃ t u, exec .shutdown s = .next t ∧ step { t with schedule := .transport .ok :: rest } = .next u ∧
      closeCount s.hist = 0 ∧ closeCount u.hist = 1 ∧ u.lc = .released ∧ u.busy = false ∧
      exec .shutdown u = .next { u with err := .ok }

/-- R190: the values right after construction, of any configuration. OUT and COLOR_RAM are unspecified, so nothing is said
of them; State.reset is the construction of the unknown configuration. -/
def Obligations.ResetValues : Prop :=
  State.reset = State.resetWith Config.cfg ∧
  ∀ c : Cfg,
    let s := State.resetWith c
    s.cfg = c ∧ s.lc = .unopened ∧ s.anim = .idle ∧ s.ph = .none ∧ s.pos = 0#32 ∧ s.repCount = 0#32 ∧
    s.runDelay = 0#32 ∧ s.runReps = 0#32 ∧ s.busy = false ∧ s.err = .ok ∧ s.errWord = 0x00000000#32 ∧ s.delay = 0#32 ∧
    s.reps = 0#32 ∧ s.frameLen = 0#32 ∧ s.fillIndex = 0#32 ∧ s.outLen = 0#32 ∧ s.xferCount = 0#32 ∧ s.curOp = none ∧
    s.pending = none ∧ s.hist = [] ∧ s.statusWord = 0x00000000#32

/-- R190, R191: a reset puts every register back, whatever was going on, keeps CFG, issues no port request, and drops an
outstanding one, whose answer is then ignored. The model's choice (log entry 9): both buffers show another draw number than
before, and the moves to come and the Host's record stay. -/
def Obligations.ResetDropsTheOutstandingRequest : Prop :=
  ∀ (s : State) (rest : List Move), s.schedule = .reset :: rest →
    ∃ t, step s = .next t ∧ t.cfg = s.cfg ∧ t.schedule = rest ∧
      { State.resetWith s.cfg with
        colorDraw := t.colorDraw, outDraw := t.outDraw, schedule := rest, reads := s.reads } = t ∧
      t.colorDraw ≠ s.colorDraw ∧ t.outDraw ≠ s.outDraw ∧
      ∀ (r : Response) (rest' : List Move),
        step { t with schedule := .transport r :: rest' } = .next { t with schedule := rest' }

/-- R192: from reset, OPEN and CONFIGURE, each answered OK, leave LC = CONFIGURED with ERR = OK and nothing else done. -/
def Obligations.BootSequenceConfigures : Prop :=
  core.run 4 { State.reset with schedule :=
      [.host (.write 0x000#22 .w32 0x00000001#32), .transport .ok, .host (.write 0x000#22 .w32 0x00000002#32),
       .transport .ok] } =
    .next { State.reset with
      lc := .configured
      hist := [⟨.openT Config.cfg.bus Config.cfg.device, some .ok⟩,
        ⟨.configureT Config.cfg.clockHz Config.cfg.spiMode, some .ok⟩] }

/-- R135: a run of r repetitions whose every response is OK: what it appends to HIST and where it ends, however the Host's
accesses fall between the moves of the Core, the Transport and the Timer. -/
def Obligations.SuccessfulRunClosedForm : Prop :=
  ∀ (s : State) (ms rest : List Move), Invariant s → s.busy = false → s.lc = .configured → s.reps ≠ 0#32 →
    (∀ m ∈ ms, allowedDuringRun s.cfg m) →
    ms.filter (fun m => !m.fromHost) = runMoves (s.reps.toNat * (s.cfg.ledCount + 1) - 1) .ok →
    let n := s.cfg.ledCount
    let r := s.reps.toNat
    ∃ t u, exec .run s = .next t ∧ core.run ms.length { t with schedule := ms ++ rest } = .next u ∧
      u.hist = s.hist ++ runHist s.cfg s.delay r ∧ bytesSent (runHist s.cfg s.delay r) = r * (12 * n * (n + 1) + 24 * n) ∧
      u.anim = .done ∧ u.err = .ok ∧ u.repCount = s.reps ∧ u.pos.toNat = n - 1 ∧ u.outBytes = offBuffer s.cfg ∧
      u.outLen.toNat = 24 * n ∧ u.busy = false ∧ u.xferCount = s.xferCount + BitVec.ofNat 32 (r * (n + 1)) ∧
      u.lc = .configured ∧ u.schedule = rest

/-- R136: a run whose transfer number k + 1 answers IO_ERROR has issued exactly the first k + 1 transfers of R135's sequence
and the waits between them, and stops there, however the Host's accesses fall between the other agents' moves. -/
def Obligations.FailedRunClosedForm : Prop :=
  ∀ (s : State) (k : Nat) (ms rest : List Move), Invariant s → s.busy = false → s.lc = .configured →
    k < s.reps.toNat * (s.cfg.ledCount + 1) → (∀ m ∈ ms, allowedDuringRun s.cfg m) →
    ms.filter (fun m => !m.fromHost) = runMoves k .ioError →
    let n := s.cfg.ledCount
    ∃ t u, exec .run s = .next t ∧ core.run ms.length { t with schedule := ms ++ rest } = .next u ∧
      u.hist = s.hist ++ failedRunHist s.cfg s.delay k ∧ xferCountIn (failedRunHist s.cfg s.delay k) = k + 1 ∧
      (failedRunHist s.cfg s.delay k).map (·.request) <+: (runHist s.cfg s.delay s.reps.toNat).map (·.request) ∧
      u.anim = .aborted ∧ u.err = .transportIoError ∧ u.busy = false ∧ u.pending = none ∧
      u.xferCount = s.xferCount + BitVec.ofNat 32 (k + 1) ∧ u.lc = .configured ∧ u.repCount.toNat = k / (n + 1) ∧
      u.pos.toNat = min (k % (n + 1)) (n - 1) ∧ u.outBytes = runBuffer s.cfg k ∧ u.schedule = rest

/-- R202: where the ports answer whatever is asked of them (PortsLive), and the Core takes the steps it owes (CoreLive, the
model's own premise, log entry 23), every command in progress ends. -/
def Obligations.EveryCommandEndsIfPortsLive : Prop :=
  ∀ (ms : Nat → Move) (ss : Nat → State), Invariant (ss 0) →
    (∀ n, moveStep (ms n) (ss n) = .next (ss (n + 1))) → PortsLive ms ss → CoreLive ms ss → ∃ n, (ss n).busy = false

/-- R202: a command in progress that nobody serves hangs: BUSY, what it waits for, where it is, ERR, OUT and every counter all
stay, and so do the argument registers where the move is not the Host's. -/
def Obligations.UnservedCommandHangs : Prop :=
  ∀ (s t : State), Invariant s → s.busy = true → step s = .next t →
    (∀ m rest, s.schedule = m :: rest → m ≠ .reset ∧ ¬ serves m s) →
    t.busy = true ∧ t.curOp = s.curOp ∧ t.pending = s.pending ∧ t.ph = s.ph ∧ t.anim = s.anim ∧ t.pos = s.pos ∧
    t.err = s.err ∧ t.hist = s.hist ∧ t.lc = s.lc ∧ t.repCount = s.repCount ∧ t.xferCount = s.xferCount ∧
    t.runDelay = s.runDelay ∧ t.runReps = s.runReps ∧ t.outLen = s.outLen ∧ (∀ n, t.outByte n = s.outByte n) ∧
    ((∀ x rest, s.schedule ≠ .host x :: rest) →
      t.delay = s.delay ∧ t.reps = s.reps ∧ t.frameLen = s.frameLen ∧ t.fillIndex = s.fillIndex ∧
      ∀ a, t.byteAt a = s.byteAt a)
end

