-- ==== Sys2Proof/Laws/Encoder.lean ====
section
/-! SUPPORT. Laws/Encoder.lean: lengths and shapes of what the bit encoder and the frame generators make. -/

namespace Sys2Proof.Machine

@[simp] theorem encChannel_length (c : Cfg) (v : Byte) : (encChannel c v).length = 8 := rfl

theorem encColor_eq (c : Cfg) (x : Color) :
    encColor c x = encChannel c x.g ++ encChannel c x.r ++ encChannel c x.b := by
  simp [encColor, channelsGRB]

@[simp] theorem encColor_length (c : Cfg) (x : Color) : (encColor c x).length = 24 := by
  simp [encColor_eq]

@[simp] theorem encodeSeq_nil (c : Cfg) : encodeSeq c [] = [] := rfl

@[simp] theorem encodeSeq_cons (c : Cfg) (x : Color) (xs : List Color) :
    encodeSeq c (x :: xs) = encColor c x ++ encodeSeq c xs := rfl

@[simp] theorem encodeSeq_length (c : Cfg) (xs : List Color) : (encodeSeq c xs).length = 24 * xs.length := by
  induction xs with
  | nil => rfl
  | cons x xs ih =>
    simp only [encodeSeq_cons, List.length_append, encColor_length, ih, List.length_cons]
    omega

@[simp] theorem offBuffer_length (c : Cfg) : (offBuffer c).length = 24 * c.ledCount := by
  simp [offBuffer]

@[simp] theorem fillFrame_length (c : Cfg) (i : Nat) : (fillFrame c i).length = i + 1 := by
  simp [fillFrame]

theorem fillFrame_getElem (c : Cfg) (i j : Nat) (h : j < (fillFrame c i).length) :
    (fillFrame c i)[j] = cycleColor c j := by
  simp [fillFrame]

end Sys2Proof.Machine
end

