-- ==== Sys2Proof/Laws/State.lean ====
section
/-! SUPPORT. Laws/State.lean: for every named update of State, one lemma per field; and takeError in terms of the other updates. -/

namespace Sys2Proof.Machine

section
variable (c : ErrCode) (s : State)
@[simp] theorem setErr_cfg : (State.setErr c s).cfg = s.cfg := rfl
@[simp] theorem setErr_lc : (State.setErr c s).lc = s.lc := rfl
@[simp] theorem setErr_anim : (State.setErr c s).anim = s.anim := rfl
@[simp] theorem setErr_ph : (State.setErr c s).ph = s.ph := rfl
@[simp] theorem setErr_busy : (State.setErr c s).busy = s.busy := rfl
@[simp] theorem setErr_curOp : (State.setErr c s).curOp = s.curOp := rfl
@[simp] theorem setErr_pending : (State.setErr c s).pending = s.pending := rfl
@[simp] theorem setErr_err : (State.setErr c s).err = c := rfl
@[simp] theorem setErr_pos : (State.setErr c s).pos = s.pos := rfl
@[simp] theorem setErr_repCount : (State.setErr c s).repCount = s.repCount := rfl
@[simp] theorem setErr_xferCount : (State.setErr c s).xferCount = s.xferCount := rfl
@[simp] theorem setErr_runDelay : (State.setErr c s).runDelay = s.runDelay := rfl
@[simp] theorem setErr_runReps : (State.setErr c s).runReps = s.runReps := rfl
@[simp] theorem setErr_delay : (State.setErr c s).delay = s.delay := rfl
@[simp] theorem setErr_reps : (State.setErr c s).reps = s.reps := rfl
@[simp] theorem setErr_frameLen : (State.setErr c s).frameLen = s.frameLen := rfl
@[simp] theorem setErr_fillIndex : (State.setErr c s).fillIndex = s.fillIndex := rfl
@[simp] theorem setErr_outLen : (State.setErr c s).outLen = s.outLen := rfl
@[simp] theorem setErr_mem : (State.setErr c s).mem = s.mem := rfl
@[simp] theorem setErr_hist : (State.setErr c s).hist = s.hist := rfl
@[simp] theorem setErr_colorDraw : (State.setErr c s).colorDraw = s.colorDraw := rfl
@[simp] theorem setErr_outDraw : (State.setErr c s).outDraw = s.outDraw := rfl
@[simp] theorem setErr_schedule : (State.setErr c s).schedule = s.schedule := rfl
@[simp] theorem setErr_reads : (State.setErr c s).reads = s.reads := rfl
end

section
variable (c : ErrCode) (s : State)
@[simp] theorem complete_cfg : (State.complete c s).cfg = s.cfg := rfl
@[simp] theorem complete_lc : (State.complete c s).lc = s.lc := rfl
@[simp] theorem complete_anim : (State.complete c s).anim = s.anim := rfl
@[simp] theorem complete_ph : (State.complete c s).ph = .none := rfl
@[simp] theorem complete_busy : (State.complete c s).busy = false := rfl
@[simp] theorem complete_curOp : (State.complete c s).curOp = none := rfl
@[simp] theorem complete_pending : (State.complete c s).pending = none := rfl
@[simp] theorem complete_err : (State.complete c s).err = c := rfl
@[simp] theorem complete_pos : (State.complete c s).pos = s.pos := rfl
@[simp] theorem complete_repCount : (State.complete c s).repCount = s.repCount := rfl
@[simp] theorem complete_xferCount : (State.complete c s).xferCount = s.xferCount := rfl
@[simp] theorem complete_runDelay : (State.complete c s).runDelay = s.runDelay := rfl
@[simp] theorem complete_runReps : (State.complete c s).runReps = s.runReps := rfl
@[simp] theorem complete_delay : (State.complete c s).delay = s.delay := rfl
@[simp] theorem complete_reps : (State.complete c s).reps = s.reps := rfl
@[simp] theorem complete_frameLen : (State.complete c s).frameLen = s.frameLen := rfl
@[simp] theorem complete_fillIndex : (State.complete c s).fillIndex = s.fillIndex := rfl
@[simp] theorem complete_outLen : (State.complete c s).outLen = s.outLen := rfl
@[simp] theorem complete_mem : (State.complete c s).mem = s.mem := rfl
@[simp] theorem complete_hist : (State.complete c s).hist = s.hist := rfl
@[simp] theorem complete_colorDraw : (State.complete c s).colorDraw = s.colorDraw := rfl
@[simp] theorem complete_outDraw : (State.complete c s).outDraw = s.outDraw := rfl
@[simp] theorem complete_schedule : (State.complete c s).schedule = s.schedule := rfl
@[simp] theorem complete_reads : (State.complete c s).reads = s.reads := rfl
end

section
variable (i : Instr) (s : State)
@[simp] theorem accept_cfg : (State.accept i s).cfg = s.cfg := rfl
@[simp] theorem accept_lc : (State.accept i s).lc = s.lc := rfl
@[simp] theorem accept_anim : (State.accept i s).anim = s.anim := rfl
@[simp] theorem accept_ph : (State.accept i s).ph = s.ph := rfl
@[simp] theorem accept_busy : (State.accept i s).busy = true := rfl
@[simp] theorem accept_curOp : (State.accept i s).curOp = some i := rfl
@[simp] theorem accept_pending : (State.accept i s).pending = s.pending := rfl
@[simp] theorem accept_err : (State.accept i s).err = s.err := rfl
@[simp] theorem accept_pos : (State.accept i s).pos = s.pos := rfl
@[simp] theorem accept_repCount : (State.accept i s).repCount = s.repCount := rfl
@[simp] theorem accept_xferCount : (State.accept i s).xferCount = s.xferCount := rfl
@[simp] theorem accept_runDelay : (State.accept i s).runDelay = s.runDelay := rfl
@[simp] theorem accept_runReps : (State.accept i s).runReps = s.runReps := rfl
@[simp] theorem accept_delay : (State.accept i s).delay = s.delay := rfl
@[simp] theorem accept_reps : (State.accept i s).reps = s.reps := rfl
@[simp] theorem accept_frameLen : (State.accept i s).frameLen = s.frameLen := rfl
@[simp] theorem accept_fillIndex : (State.accept i s).fillIndex = s.fillIndex := rfl
@[simp] theorem accept_outLen : (State.accept i s).outLen = s.outLen := rfl
@[simp] theorem accept_mem : (State.accept i s).mem = s.mem := rfl
@[simp] theorem accept_hist : (State.accept i s).hist = s.hist := rfl
@[simp] theorem accept_colorDraw : (State.accept i s).colorDraw = s.colorDraw := rfl
@[simp] theorem accept_outDraw : (State.accept i s).outDraw = s.outDraw := rfl
@[simp] theorem accept_schedule : (State.accept i s).schedule = s.schedule := rfl
@[simp] theorem accept_reads : (State.accept i s).reads = s.reads := rfl
end

section
variable (q : PortRequest) (s : State)
@[simp] theorem request_cfg : (State.request q s).cfg = s.cfg := rfl
@[simp] theorem request_lc : (State.request q s).lc = s.lc := rfl
@[simp] theorem request_anim : (State.request q s).anim = s.anim := rfl
@[simp] theorem request_ph : (State.request q s).ph = s.ph := rfl
@[simp] theorem request_busy : (State.request q s).busy = s.busy := rfl
@[simp] theorem request_curOp : (State.request q s).curOp = s.curOp := rfl
@[simp] theorem request_pending : (State.request q s).pending = some q := rfl
@[simp] theorem request_err : (State.request q s).err = s.err := rfl
@[simp] theorem request_pos : (State.request q s).pos = s.pos := rfl
@[simp] theorem request_repCount : (State.request q s).repCount = s.repCount := rfl
@[simp] theorem request_xferCount : (State.request q s).xferCount = s.xferCount := rfl
@[simp] theorem request_runDelay : (State.request q s).runDelay = s.runDelay := rfl
@[simp] theorem request_runReps : (State.request q s).runReps = s.runReps := rfl
@[simp] theorem request_delay : (State.request q s).delay = s.delay := rfl
@[simp] theorem request_reps : (State.request q s).reps = s.reps := rfl
@[simp] theorem request_frameLen : (State.request q s).frameLen = s.frameLen := rfl
@[simp] theorem request_fillIndex : (State.request q s).fillIndex = s.fillIndex := rfl
@[simp] theorem request_outLen : (State.request q s).outLen = s.outLen := rfl
@[simp] theorem request_mem : (State.request q s).mem = s.mem := rfl
@[simp] theorem request_hist : (State.request q s).hist = s.hist ++ [⟨q, none⟩] := rfl
@[simp] theorem request_colorDraw : (State.request q s).colorDraw = s.colorDraw := rfl
@[simp] theorem request_outDraw : (State.request q s).outDraw = s.outDraw := rfl
@[simp] theorem request_schedule : (State.request q s).schedule = s.schedule := rfl
@[simp] theorem request_reads : (State.request q s).reads = s.reads := rfl
end

section
variable (r : Response) (s : State)
@[simp] theorem answer_cfg : (State.answer r s).cfg = s.cfg := rfl
@[simp] theorem answer_lc : (State.answer r s).lc = s.lc := rfl
@[simp] theorem answer_anim : (State.answer r s).anim = s.anim := rfl
@[simp] theorem answer_ph : (State.answer r s).ph = s.ph := rfl
@[simp] theorem answer_busy : (State.answer r s).busy = s.busy := rfl
@[simp] theorem answer_curOp : (State.answer r s).curOp = s.curOp := rfl
@[simp] theorem answer_pending : (State.answer r s).pending = none := rfl
@[simp] theorem answer_err : (State.answer r s).err = s.err := rfl
@[simp] theorem answer_pos : (State.answer r s).pos = s.pos := rfl
@[simp] theorem answer_repCount : (State.answer r s).repCount = s.repCount := rfl
@[simp] theorem answer_xferCount : (State.answer r s).xferCount = s.xferCount := rfl
@[simp] theorem answer_runDelay : (State.answer r s).runDelay = s.runDelay := rfl
@[simp] theorem answer_runReps : (State.answer r s).runReps = s.runReps := rfl
@[simp] theorem answer_delay : (State.answer r s).delay = s.delay := rfl
@[simp] theorem answer_reps : (State.answer r s).reps = s.reps := rfl
@[simp] theorem answer_frameLen : (State.answer r s).frameLen = s.frameLen := rfl
@[simp] theorem answer_fillIndex : (State.answer r s).fillIndex = s.fillIndex := rfl
@[simp] theorem answer_outLen : (State.answer r s).outLen = s.outLen := rfl
@[simp] theorem answer_mem : (State.answer r s).mem = s.mem := rfl
@[simp] theorem answer_hist : (State.answer r s).hist = answerLast r s.hist := rfl
@[simp] theorem answer_colorDraw : (State.answer r s).colorDraw = s.colorDraw := rfl
@[simp] theorem answer_outDraw : (State.answer r s).outDraw = s.outDraw := rfl
@[simp] theorem answer_schedule : (State.answer r s).schedule = s.schedule := rfl
@[simp] theorem answer_reads : (State.answer r s).reads = s.reads := rfl
end

section
variable (s : State)
@[simp] theorem countTransfer_cfg : (s.countTransfer).cfg = s.cfg := rfl
@[simp] theorem countTransfer_lc : (s.countTransfer).lc = s.lc := rfl
@[simp] theorem countTransfer_anim : (s.countTransfer).anim = s.anim := rfl
@[simp] theorem countTransfer_ph : (s.countTransfer).ph = s.ph := rfl
@[simp] theorem countTransfer_busy : (s.countTransfer).busy = s.busy := rfl
@[simp] theorem countTransfer_curOp : (s.countTransfer).curOp = s.curOp := rfl
@[simp] theorem countTransfer_pending : (s.countTransfer).pending = s.pending := rfl
@[simp] theorem countTransfer_err : (s.countTransfer).err = s.err := rfl
@[simp] theorem countTransfer_pos : (s.countTransfer).pos = s.pos := rfl
@[simp] theorem countTransfer_repCount : (s.countTransfer).repCount = s.repCount := rfl
@[simp] theorem countTransfer_xferCount : (s.countTransfer).xferCount = Word.succ s.xferCount := rfl
@[simp] theorem countTransfer_runDelay : (s.countTransfer).runDelay = s.runDelay := rfl
@[simp] theorem countTransfer_runReps : (s.countTransfer).runReps = s.runReps := rfl
@[simp] theorem countTransfer_delay : (s.countTransfer).delay = s.delay := rfl
@[simp] theorem countTransfer_reps : (s.countTransfer).reps = s.reps := rfl
@[simp] theorem countTransfer_frameLen : (s.countTransfer).frameLen = s.frameLen := rfl
@[simp] theorem countTransfer_fillIndex : (s.countTransfer).fillIndex = s.fillIndex := rfl
@[simp] theorem countTransfer_outLen : (s.countTransfer).outLen = s.outLen := rfl
@[simp] theorem countTransfer_mem : (s.countTransfer).mem = s.mem := rfl
@[simp] theorem countTransfer_hist : (s.countTransfer).hist = s.hist := rfl
@[simp] theorem countTransfer_colorDraw : (s.countTransfer).colorDraw = s.colorDraw := rfl
@[simp] theorem countTransfer_outDraw : (s.countTransfer).outDraw = s.outDraw := rfl
@[simp] theorem countTransfer_schedule : (s.countTransfer).schedule = s.schedule := rfl
@[simp] theorem countTransfer_reads : (s.countTransfer).reads = s.reads := rfl
end

section
variable (bs : List Byte) (s : State)
@[simp] theorem transfer_cfg : (State.transfer bs s).cfg = s.cfg := rfl
@[simp] theorem transfer_lc : (State.transfer bs s).lc = s.lc := rfl
@[simp] theorem transfer_anim : (State.transfer bs s).anim = s.anim := rfl
@[simp] theorem transfer_ph : (State.transfer bs s).ph = s.ph := rfl
@[simp] theorem transfer_busy : (State.transfer bs s).busy = s.busy := rfl
@[simp] theorem transfer_curOp : (State.transfer bs s).curOp = s.curOp := rfl
@[simp] theorem transfer_pending : (State.transfer bs s).pending = some (.xfer bs) := rfl
@[simp] theorem transfer_err : (State.transfer bs s).err = s.err := rfl
@[simp] theorem transfer_pos : (State.transfer bs s).pos = s.pos := rfl
@[simp] theorem transfer_repCount : (State.transfer bs s).repCount = s.repCount := rfl
@[simp] theorem transfer_xferCount : (State.transfer bs s).xferCount = Word.succ s.xferCount := rfl
@[simp] theorem transfer_runDelay : (State.transfer bs s).runDelay = s.runDelay := rfl
@[simp] theorem transfer_runReps : (State.transfer bs s).runReps = s.runReps := rfl
@[simp] theorem transfer_delay : (State.transfer bs s).delay = s.delay := rfl
@[simp] theorem transfer_reps : (State.transfer bs s).reps = s.reps := rfl
@[simp] theorem transfer_frameLen : (State.transfer bs s).frameLen = s.frameLen := rfl
@[simp] theorem transfer_fillIndex : (State.transfer bs s).fillIndex = s.fillIndex := rfl
@[simp] theorem transfer_outLen : (State.transfer bs s).outLen = s.outLen := rfl
@[simp] theorem transfer_mem : (State.transfer bs s).mem = s.mem := rfl
@[simp] theorem transfer_hist : (State.transfer bs s).hist = s.hist ++ [⟨.xfer bs, none⟩] := rfl
@[simp] theorem transfer_colorDraw : (State.transfer bs s).colorDraw = s.colorDraw := rfl
@[simp] theorem transfer_outDraw : (State.transfer bs s).outDraw = s.outDraw := rfl
@[simp] theorem transfer_schedule : (State.transfer bs s).schedule = s.schedule := rfl
@[simp] theorem transfer_reads : (State.transfer bs s).reads = s.reads := rfl
end

section
variable (j : Nat) (c : Color) (s : State)
@[simp] theorem writeColor_cfg : (State.writeColor j c s).cfg = s.cfg := rfl
@[simp] theorem writeColor_lc : (State.writeColor j c s).lc = s.lc := rfl
@[simp] theorem writeColor_anim : (State.writeColor j c s).anim = s.anim := rfl
@[simp] theorem writeColor_ph : (State.writeColor j c s).ph = s.ph := rfl
@[simp] theorem writeColor_busy : (State.writeColor j c s).busy = s.busy := rfl
@[simp] theorem writeColor_curOp : (State.writeColor j c s).curOp = s.curOp := rfl
@[simp] theorem writeColor_pending : (State.writeColor j c s).pending = s.pending := rfl
@[simp] theorem writeColor_err : (State.writeColor j c s).err = s.err := rfl
@[simp] theorem writeColor_pos : (State.writeColor j c s).pos = s.pos := rfl
@[simp] theorem writeColor_repCount : (State.writeColor j c s).repCount = s.repCount := rfl
@[simp] theorem writeColor_xferCount : (State.writeColor j c s).xferCount = s.xferCount := rfl
@[simp] theorem writeColor_runDelay : (State.writeColor j c s).runDelay = s.runDelay := rfl
@[simp] theorem writeColor_runReps : (State.writeColor j c s).runReps = s.runReps := rfl
@[simp] theorem writeColor_delay : (State.writeColor j c s).delay = s.delay := rfl
@[simp] theorem writeColor_reps : (State.writeColor j c s).reps = s.reps := rfl
@[simp] theorem writeColor_frameLen : (State.writeColor j c s).frameLen = s.frameLen := rfl
@[simp] theorem writeColor_fillIndex : (State.writeColor j c s).fillIndex = s.fillIndex := rfl
@[simp] theorem writeColor_outLen : (State.writeColor j c s).outLen = s.outLen := rfl
@[simp] theorem writeColor_mem : (State.writeColor j c s).mem = ((s.mem.set (colorAddr j 0) c.b).set (colorAddr j 1) c.g).set (colorAddr j 2) c.r := rfl
@[simp] theorem writeColor_hist : (State.writeColor j c s).hist = s.hist := rfl
@[simp] theorem writeColor_colorDraw : (State.writeColor j c s).colorDraw = s.colorDraw := rfl
@[simp] theorem writeColor_outDraw : (State.writeColor j c s).outDraw = s.outDraw := rfl
@[simp] theorem writeColor_schedule : (State.writeColor j c s).schedule = s.schedule := rfl
@[simp] theorem writeColor_reads : (State.writeColor j c s).reads = s.reads := rfl
end

section
variable (bs : List Byte) (s : State)
@[simp] theorem writeOut_cfg : (State.writeOut bs s).cfg = s.cfg := rfl
@[simp] theorem writeOut_lc : (State.writeOut bs s).lc = s.lc := rfl
@[simp] theorem writeOut_anim : (State.writeOut bs s).anim = s.anim := rfl
@[simp] theorem writeOut_ph : (State.writeOut bs s).ph = s.ph := rfl
@[simp] theorem writeOut_busy : (State.writeOut bs s).busy = s.busy := rfl
@[simp] theorem writeOut_curOp : (State.writeOut bs s).curOp = s.curOp := rfl
@[simp] theorem writeOut_pending : (State.writeOut bs s).pending = s.pending := rfl
@[simp] theorem writeOut_err : (State.writeOut bs s).err = s.err := rfl
@[simp] theorem writeOut_pos : (State.writeOut bs s).pos = s.pos := rfl
@[simp] theorem writeOut_repCount : (State.writeOut bs s).repCount = s.repCount := rfl
@[simp] theorem writeOut_xferCount : (State.writeOut bs s).xferCount = s.xferCount := rfl
@[simp] theorem writeOut_runDelay : (State.writeOut bs s).runDelay = s.runDelay := rfl
@[simp] theorem writeOut_runReps : (State.writeOut bs s).runReps = s.runReps := rfl
@[simp] theorem writeOut_delay : (State.writeOut bs s).delay = s.delay := rfl
@[simp] theorem writeOut_reps : (State.writeOut bs s).reps = s.reps := rfl
@[simp] theorem writeOut_frameLen : (State.writeOut bs s).frameLen = s.frameLen := rfl
@[simp] theorem writeOut_fillIndex : (State.writeOut bs s).fillIndex = s.fillIndex := rfl
@[simp] theorem writeOut_outLen : (State.writeOut bs s).outLen = BitVec.ofNat 32 bs.length := rfl
@[simp] theorem writeOut_mem : (State.writeOut bs s).mem = s.mem.below outBase ++ Memory.cells outBase bs := rfl
@[simp] theorem writeOut_hist : (State.writeOut bs s).hist = s.hist := rfl
@[simp] theorem writeOut_colorDraw : (State.writeOut bs s).colorDraw = s.colorDraw := rfl
@[simp] theorem writeOut_outDraw : (State.writeOut bs s).outDraw = s.outDraw + 1 := rfl
@[simp] theorem writeOut_schedule : (State.writeOut bs s).schedule = s.schedule := rfl
@[simp] theorem writeOut_reads : (State.writeOut bs s).reads = s.reads := rfl
end

section
variable (bs : List Byte) (s : State)
@[simp] theorem produce_cfg : (State.produce bs s).cfg = s.cfg := rfl
@[simp] theorem produce_lc : (State.produce bs s).lc = s.lc := rfl
@[simp] theorem produce_anim : (State.produce bs s).anim = s.anim := rfl
@[simp] theorem produce_ph : (State.produce bs s).ph = s.ph := rfl
@[simp] theorem produce_busy : (State.produce bs s).busy = s.busy := rfl
@[simp] theorem produce_curOp : (State.produce bs s).curOp = s.curOp := rfl
@[simp] theorem produce_pending : (State.produce bs s).pending = s.pending := rfl
@[simp] theorem produce_err : (State.produce bs s).err = .ok := rfl
@[simp] theorem produce_pos : (State.produce bs s).pos = s.pos := rfl
@[simp] theorem produce_repCount : (State.produce bs s).repCount = s.repCount := rfl
@[simp] theorem produce_xferCount : (State.produce bs s).xferCount = s.xferCount := rfl
@[simp] theorem produce_runDelay : (State.produce bs s).runDelay = s.runDelay := rfl
@[simp] theorem produce_runReps : (State.produce bs s).runReps = s.runReps := rfl
@[simp] theorem produce_delay : (State.produce bs s).delay = s.delay := rfl
@[simp] theorem produce_reps : (State.produce bs s).reps = s.reps := rfl
@[simp] theorem produce_frameLen : (State.produce bs s).frameLen = s.frameLen := rfl
@[simp] theorem produce_fillIndex : (State.produce bs s).fillIndex = s.fillIndex := rfl
@[simp] theorem produce_outLen : (State.produce bs s).outLen = BitVec.ofNat 32 bs.length := rfl
@[simp] theorem produce_mem : (State.produce bs s).mem = s.mem.below outBase ++ Memory.cells outBase bs := rfl
@[simp] theorem produce_hist : (State.produce bs s).hist = s.hist := rfl
@[simp] theorem produce_colorDraw : (State.produce bs s).colorDraw = s.colorDraw := rfl
@[simp] theorem produce_outDraw : (State.produce bs s).outDraw = s.outDraw + 1 := rfl
@[simp] theorem produce_schedule : (State.produce bs s).schedule = s.schedule := rfl
@[simp] theorem produce_reads : (State.produce bs s).reads = s.reads := rfl
end

section
variable (a : Offset) (v : Word) (s : State)
@[simp] theorem noteRead_cfg : (State.noteRead a v s).cfg = s.cfg := rfl
@[simp] theorem noteRead_lc : (State.noteRead a v s).lc = s.lc := rfl
@[simp] theorem noteRead_anim : (State.noteRead a v s).anim = s.anim := rfl
@[simp] theorem noteRead_ph : (State.noteRead a v s).ph = s.ph := rfl
@[simp] theorem noteRead_busy : (State.noteRead a v s).busy = s.busy := rfl
@[simp] theorem noteRead_curOp : (State.noteRead a v s).curOp = s.curOp := rfl
@[simp] theorem noteRead_pending : (State.noteRead a v s).pending = s.pending := rfl
@[simp] theorem noteRead_err : (State.noteRead a v s).err = s.err := rfl
@[simp] theorem noteRead_pos : (State.noteRead a v s).pos = s.pos := rfl
@[simp] theorem noteRead_repCount : (State.noteRead a v s).repCount = s.repCount := rfl
@[simp] theorem noteRead_xferCount : (State.noteRead a v s).xferCount = s.xferCount := rfl
@[simp] theorem noteRead_runDelay : (State.noteRead a v s).runDelay = s.runDelay := rfl
@[simp] theorem noteRead_runReps : (State.noteRead a v s).runReps = s.runReps := rfl
@[simp] theorem noteRead_delay : (State.noteRead a v s).delay = s.delay := rfl
@[simp] theorem noteRead_reps : (State.noteRead a v s).reps = s.reps := rfl
@[simp] theorem noteRead_frameLen : (State.noteRead a v s).frameLen = s.frameLen := rfl
@[simp] theorem noteRead_fillIndex : (State.noteRead a v s).fillIndex = s.fillIndex := rfl
@[simp] theorem noteRead_outLen : (State.noteRead a v s).outLen = s.outLen := rfl
@[simp] theorem noteRead_mem : (State.noteRead a v s).mem = s.mem := rfl
@[simp] theorem noteRead_hist : (State.noteRead a v s).hist = s.hist := rfl
@[simp] theorem noteRead_colorDraw : (State.noteRead a v s).colorDraw = s.colorDraw := rfl
@[simp] theorem noteRead_outDraw : (State.noteRead a v s).outDraw = s.outDraw := rfl
@[simp] theorem noteRead_schedule : (State.noteRead a v s).schedule = s.schedule := rfl
@[simp] theorem noteRead_reads : (State.noteRead a v s).reads = s.reads ++ [(a, v)] := rfl
end

section
variable (s : State)
@[simp] theorem resetAgain_cfg : (s.resetAgain).cfg = s.cfg := rfl
@[simp] theorem resetAgain_lc : (s.resetAgain).lc = .unopened := rfl
@[simp] theorem resetAgain_anim : (s.resetAgain).anim = .idle := rfl
@[simp] theorem resetAgain_ph : (s.resetAgain).ph = .none := rfl
@[simp] theorem resetAgain_busy : (s.resetAgain).busy = false := rfl
@[simp] theorem resetAgain_curOp : (s.resetAgain).curOp = none := rfl
@[simp] theorem resetAgain_pending : (s.resetAgain).pending = none := rfl
@[simp] theorem resetAgain_err : (s.resetAgain).err = .ok := rfl
@[simp] theorem resetAgain_pos : (s.resetAgain).pos = 0 := rfl
@[simp] theorem resetAgain_repCount : (s.resetAgain).repCount = 0 := rfl
@[simp] theorem resetAgain_xferCount : (s.resetAgain).xferCount = 0 := rfl
@[simp] theorem resetAgain_runDelay : (s.resetAgain).runDelay = 0 := rfl
@[simp] theorem resetAgain_runReps : (s.resetAgain).runReps = 0 := rfl
@[simp] theorem resetAgain_delay : (s.resetAgain).delay = 0 := rfl
@[simp] theorem resetAgain_reps : (s.resetAgain).reps = 0 := rfl
@[simp] theorem resetAgain_frameLen : (s.resetAgain).frameLen = 0 := rfl
@[simp] theorem resetAgain_fillIndex : (s.resetAgain).fillIndex = 0 := rfl
@[simp] theorem resetAgain_outLen : (s.resetAgain).outLen = 0 := rfl
@[simp] theorem resetAgain_mem : (s.resetAgain).mem = [] := rfl
@[simp] theorem resetAgain_hist : (s.resetAgain).hist = [] := rfl
@[simp] theorem resetAgain_colorDraw : (s.resetAgain).colorDraw = s.colorDraw + 1 := rfl
@[simp] theorem resetAgain_outDraw : (s.resetAgain).outDraw = s.outDraw + 1 := rfl
@[simp] theorem resetAgain_schedule : (s.resetAgain).schedule = s.schedule := rfl
@[simp] theorem resetAgain_reads : (s.resetAgain).reads = s.reads := rfl
end

/-! takeError, one equation per code (60_exceptions.md R179). -/

@[simp] theorem takeError_illegalCommand (s : State) : s.takeError .illegalCommand = s.setErr .illegalCommand := rfl
@[simp] theorem takeError_badState (s : State) : s.takeError .badState = s.setErr .badState := rfl
@[simp] theorem takeError_badArgument (s : State) : s.takeError .badArgument = s.setErr .badArgument := rfl
@[simp] theorem takeError_transportUnavailable (s : State) :
    s.takeError .transportUnavailable = { s with lc := .startupFailed }.complete .transportUnavailable := rfl
theorem takeError_transportIoError (s : State) :
    s.takeError .transportIoError =
      { s with anim := if s.curOp = some Instr.run then .aborted else s.anim }.complete .transportIoError := rfl
theorem takeError_ioError_run (s : State) (h : s.curOp = some Instr.run) :
    s.takeError .transportIoError = { s with anim := .aborted }.complete .transportIoError := by
  rw [takeError_transportIoError, if_pos h]
theorem takeError_ioError_other (s : State) (h : s.curOp ≠ some Instr.run) :
    s.takeError .transportIoError = s.complete .transportIoError := by
  rw [takeError_transportIoError, if_neg h]

end Sys2Proof.Machine
end

