-- ==== Sys2Proof/Laws/Memory.lean ====
section
/-! SUPPORT. Laws/Memory.lean: the window memory: every operation keeps the canonical form, and what reading a byte gives
after each. -/

namespace Sys2Proof.Machine


@[simp] theorem Memory.get?_nil (a : Nat) : get? [] a = none := rfl

theorem Memory.get?_cons (x : Nat) (b : Byte) (m : Memory) (a : Nat) :
    get? ((x, b) :: m) a = if x = a then some b else get? m a := rfl

/-- A byte is listed exactly when some entry has its offset. -/
theorem Memory.get?_isSome (m : Memory) (a : Nat) : (get? m a).isSome = true ↔ ∃ x ∈ m, x.1 = a := by
  induction m with
  | nil => simp
  | cons x m ih =>
    obtain ⟨x, b⟩ := x
    by_cases h : x = a <;> simp [get?_cons, h, ih]

theorem Memory.get?_eq_none (m : Memory) (a : Nat) (h : ∀ x ∈ m, x.1 ≠ a) : get? m a = none := by
  induction m with
  | nil => rfl
  | cons x m ih =>
    obtain ⟨x, b⟩ := x
    rw [get?_cons, if_neg (h (x, b) (by simp)), ih (fun y hy => h y (by simp [hy]))]

/-- Where the entries of a memory with a new byte lie. -/
theorem Memory.mem_set (m : Memory) (a : Nat) (b : Byte) (x : Host.Cell) (h : x ∈ set m a b) : x = (a, b) ∨ x ∈ m := by
  induction m with
  | nil => simpa [set] using h
  | cons y m ih =>
    obtain ⟨y, c⟩ := y
    simp only [set] at h
    split at h
    · simpa using h
    · split at h <;> simp only [List.mem_cons] at h ⊢
      · tauto
      · rcases h with h | h
        · tauto
        · rcases ih h with h | h <;> tauto

/-- Writing a byte keeps the canonical form. -/
theorem Memory.wf_set (m : Memory) (a : Nat) (b : Byte) (h : wf m) : wf (set m a b) := by
  induction m with
  | nil => simp [set]
  | cons y m ih =>
    obtain ⟨y, c⟩ := y
    obtain ⟨h1, h2⟩ := List.pairwise_cons.mp h
    simp only [set]
    split
    · refine List.pairwise_cons.mpr ⟨?_, h⟩
      intro z hz
      rcases List.mem_cons.mp hz with rfl | hz
      · assumption
      · have := h1 z hz
        simp only at this ⊢
        omega
    · split
      · subst_vars
        exact List.pairwise_cons.mpr ⟨h1, h2⟩
      · refine List.pairwise_cons.mpr ⟨?_, ih h2⟩
        intro z hz
        rcases mem_set m a b z hz with rfl | hz
        · simp only
          omega
        · exact h1 z hz

/-- Reading after a write. -/
theorem Memory.get?_set (m : Memory) (a : Nat) (b : Byte) (h : wf m) (x : Nat) :
    get? (set m a b) x = if x = a then some b else get? m x := by
  induction m with
  | nil => simp [set, get?_cons, eq_comm]
  | cons y m ih =>
    obtain ⟨y, c⟩ := y
    obtain ⟨h1, h2⟩ := List.pairwise_cons.mp h
    simp only [set]
    split
    · simp [get?_cons, eq_comm]
    · split
      · subst_vars
        by_cases hx : x = y <;> simp [get?_cons, hx, eq_comm]
      · rw [get?_cons, ih h2, get?_cons]
        by_cases hx : x = a
        · have : ¬ y = x := by omega
          simp [hx]
          omega
        · simp [hx]

theorem Memory.mem_below (m : Memory) (a : Nat) (x : Host.Cell) : x ∈ below m a ↔ x ∈ m ∧ x.1 < a := by
  simp [below]

/-- Dropping the bytes from an offset up keeps the canonical form. -/
theorem Memory.wf_below (m : Memory) (a : Nat) (h : wf m) : wf (below m a) := List.Pairwise.filter _ h

theorem Memory.get?_below (m : Memory) (a x : Nat) : get? (below m a) x = if x < a then get? m x else none := by
  by_cases hx : x < a
  · rw [if_pos hx]
    induction m with
    | nil => rfl
    | cons y m ih =>
      obtain ⟨y, c⟩ := y
      by_cases hy : y < a
      · rw [below, List.filter_cons_of_pos (by simpa using hy), get?_cons, get?_cons]
        exact if_congr Iff.rfl rfl ih
      · have : ¬ y = x := by omega
        rw [below, List.filter_cons_of_neg (by simpa using hy), get?_cons, if_neg this]
        exact ih
  · rw [if_neg hx]
    refine get?_eq_none _ _ ?_
    intro y hy
    have := ((mem_below m a y).mp hy).2
    omega

theorem Memory.mem_cells (bs : List Byte) (a : Nat) (x : Host.Cell) (h : x ∈ cells a bs) : a ≤ x.1 ∧ x.1 < a + bs.length := by
  induction bs generalizing a with
  | nil => simp [cells] at h
  | cons b bs ih =>
    rcases List.mem_cons.mp h with rfl | h
    · simp
    · have := ih (a + 1) h
      simp only [List.length_cons]
      omega

/-- A block of bytes is in canonical form. -/
theorem Memory.wf_cells (bs : List Byte) (a : Nat) : wf (cells a bs) := by
  induction bs generalizing a with
  | nil => simp [cells]
  | cons b bs ih =>
    refine List.pairwise_cons.mpr ⟨?_, ih (a + 1)⟩
    intro y hy
    have := mem_cells bs (a + 1) y hy
    simp only
    omega

theorem Memory.get?_cells (bs : List Byte) (a n : Nat) : get? (cells a bs) (a + n) = bs[n]? := by
  induction bs generalizing a n with
  | nil => simp [cells]
  | cons b bs ih =>
    cases n with
    | zero => simp [cells, get?_cons]
    | succ n =>
      have : ¬ a = a + (n + 1) := by omega
      have e : a + (n + 1) = a + 1 + n := by omega
      simp only [cells, get?_cons, this, if_false]
      rw [e, ih]
      simp

theorem Memory.get?_append (m k : Memory) (a : Nat) : get? (m ++ k) a = (get? m a).or (get? k a) := by
  induction m with
  | nil => simp
  | cons y m ih =>
    obtain ⟨y, c⟩ := y
    by_cases h : y = a <;> simp [get?_cons, h, ih]


/-- Writing OUT keeps the canonical form. -/
theorem writeOut_wf (bs : List Byte) (s : State) (h : Memory.wf s.mem) : Memory.wf (s.writeOut bs).mem := by
  rw [writeOut_mem]
  refine List.pairwise_append.mpr ⟨Memory.wf_below _ _ h, Memory.wf_cells _ _, ?_⟩
  intro x hx y hy
  have h1 := ((Memory.mem_below _ _ _).mp hx).2
  have h2 := (Memory.mem_cells _ _ _ hy).1
  omega

/-- Writing a color keeps the canonical form. -/
theorem writeColor_wf (j : Nat) (c : Color) (s : State) (h : Memory.wf s.mem) :
    Memory.wf (s.writeColor j c).mem := by
  rw [writeColor_mem]
  exact Memory.wf_set _ _ _ (Memory.wf_set _ _ _ (Memory.wf_set _ _ _ h))

theorem writeOut_get?_out (bs : List Byte) (s : State) (n : Nat) :
    (s.writeOut bs).mem.get? (outAddr n) = bs[n]? := by
  have : ¬ outBase + n < outBase := by omega
  simp [outAddr, Memory.get?_append, Memory.get?_below, Memory.get?_cells, this]

theorem writeOut_get?_below (bs : List Byte) (s : State) (a : Nat) (h : a < outBase) :
    (s.writeOut bs).mem.get? a = s.mem.get? a := by
  have hc : Memory.get? (Memory.cells outBase bs) a = none := by
    refine Memory.get?_eq_none _ _ ?_
    intro x hx
    have := (Memory.mem_cells _ _ _ hx).1
    omega
  simp [Memory.get?_append, Memory.get?_below, hc, h]

/-- After OUT is written, its first bytes are the buffer. -/
theorem writeOut_outByte (bs : List Byte) (s : State) (n : Nat) (h : n < bs.length) :
    (s.writeOut bs).outByte n = bs[n] := by
  have e := writeOut_get?_out bs s n
  rw [List.getElem?_eq_getElem h] at e
  simp only [State.outByte, State.byteAt, e]

/-- Writing OUT leaves every byte below OUTBUF as it was. -/
theorem writeOut_byteAt (bs : List Byte) (s : State) (a : Nat) (h : a < outBase) :
    (s.writeOut bs).byteAt a = s.byteAt a := by
  unfold State.byteAt
  rw [writeOut_get?_below bs s a h]
  simp [State.unwritten, h]

/-- The bytes of OUT below OUT_LEN are exactly the buffer last written. -/
theorem writeOut_outBytes (bs : List Byte) (s : State) (h : bs.length < 2 ^ 32) : (s.writeOut bs).outBytes = bs := by
  have e : (s.writeOut bs).outLen.toNat = bs.length := by
    rw [writeOut_outLen, BitVec.toNat_ofNat, Nat.mod_eq_of_lt h]
  refine List.ext_getElem (by simp only [State.outBytes, List.length_map, List.length_range, e]) ?_
  intro n h1 h2
  simp only [State.outBytes, List.getElem_map, List.getElem_range]
  exact writeOut_outByte bs s n h2

/-- What a color write changes, byte by byte. -/
theorem writeColor_get? (j : Nat) (c : Color) (s : State) (h : Memory.wf s.mem) (a : Nat) :
    (s.writeColor j c).mem.get? a =
      if a = colorAddr j 2 then some c.r else if a = colorAddr j 1 then some c.g
      else if a = colorAddr j 0 then some c.b else s.mem.get? a := by
  rw [writeColor_mem, Memory.get?_set _ _ _ (Memory.wf_set _ _ _ (Memory.wf_set _ _ _ h)),
    Memory.get?_set _ _ _ (Memory.wf_set _ _ _ h), Memory.get?_set _ _ _ h]

/-- What a byte reads as after a color write. -/
theorem writeColor_byteAt (j : Nat) (c : Color) (s : State) (h : Memory.wf s.mem) (a : Nat) :
    (s.writeColor j c).byteAt a =
      if a = colorAddr j 2 then c.r else if a = colorAddr j 1 then c.g
      else if a = colorAddr j 0 then c.b else s.byteAt a := by
  unfold State.byteAt
  rw [writeColor_get? j c s h a]
  have hu : (s.writeColor j c).unwritten a = s.unwritten a := by simp [State.unwritten]
  rw [hu]
  by_cases h2 : a = colorAddr j 2
  · rw [if_pos h2, if_pos h2]
  · rw [if_neg h2, if_neg h2]
    by_cases h1 : a = colorAddr j 1
    · rw [if_pos h1, if_pos h1]
    · rw [if_neg h1, if_neg h1]
      by_cases h0 : a = colorAddr j 0
      · rw [if_pos h0, if_pos h0]
      · rw [if_neg h0, if_neg h0]

/-- The memory right after construction, and after reset, is in the canonical form. -/
theorem resetWith_mem_wf (c : Cfg) : Memory.wf (State.resetWith c).mem := List.Pairwise.nil

theorem reset_mem_wf : Memory.wf State.reset.mem := resetWith_mem_wf _

end Sys2Proof.Machine
end

