-- ==== Sys2Proof/Laws/PerInstr.lean ====
section
/-! SUPPORT. PerInstr.lean: the per-command laws. Family Encoding: a command's word is legal, its two fields are MBZ = 0 and
the opcode map's OP, and reading the word gives the command back (30_encoding.md R70 to R72). -/

namespace Sys2Proof.Laws.Encoding

/-- What every command's encoding satisfies. -/
def Statement (i : Instr) : Prop :=
  i.wellFormed = true ∧ ctrlWordLegal (encode i) = true ∧ mbzField (encode i) = 0#24 ∧ opField (encode i) = opcode i ∧
    decodeOp (opcode i).toNat = some i ∧ decodeTableWord 32 (encode i).toNat = some i

theorem nop : Statement .nop := by refine ⟨?_, ?_, ?_, ?_, ?_, ?_⟩ <;> rfl
theorem openTransport : Statement .openTransport := by refine ⟨?_, ?_, ?_, ?_, ?_, ?_⟩ <;> rfl
theorem configure : Statement .configure := by refine ⟨?_, ?_, ?_, ?_, ?_, ?_⟩ <;> rfl
theorem encode : Statement .encode := by refine ⟨?_, ?_, ?_, ?_, ?_, ?_⟩ <;> rfl
theorem genOff : Statement .genOff := by refine ⟨?_, ?_, ?_, ?_, ?_, ?_⟩ <;> rfl
theorem genFill : Statement .genFill := by refine ⟨?_, ?_, ?_, ?_, ?_, ?_⟩ <;> rfl
theorem transmit : Statement .transmit := by refine ⟨?_, ?_, ?_, ?_, ?_, ?_⟩ <;> rfl
theorem run : Statement .run := by refine ⟨?_, ?_, ?_, ?_, ?_, ?_⟩ <;> rfl
theorem shutdown : Statement .shutdown := by refine ⟨?_, ?_, ?_, ?_, ?_, ?_⟩ <;> rfl

end Sys2Proof.Laws.Encoding
end

