-- ==== Sys2Proof/Laws/Steps.lean ====
section
/-! SUPPORT. Laws/Steps.lean: what each shared operation of a step can do, said once. -/

namespace Sys2Proof.Machine

/-- The newest request gets the response; the older entries stay. -/
@[simp] theorem answerLast_append (r : Response) (h : List HistEntry) (e : HistEntry) :
    answerLast r (h ++ [e]) = h ++ [{ e with response := some r }] := by
  induction h with
  | nil => rfl
  | cons x h ih =>
    cases h with
    | nil => rfl
    | cons y h => simpa [answerLast] using ih

/-- Answering changes responses only. -/
@[simp] theorem answerLast_requests (r : Response) (h : List HistEntry) :
    (answerLast r h).map (·.request) = h.map (·.request) := by
  induction h with
  | nil => rfl
  | cons x h ih =>
    cases h with
    | nil => rfl
    | cons y h => simpa [answerLast] using ih

@[simp] theorem answerLast_length (r : Response) (h : List HistEntry) : (answerLast r h).length = h.length := by
  have := congrArg List.length (answerLast_requests r h)
  rwa [List.length_map, List.length_map] at this

/-- A Core move: the transfer of a fill frame, the transfer of the off buffer, or nothing. -/
theorem coreStep_cases (s : State) :
    (s.curOp = some .run ∧ s.ph = .issue ∧ s.anim = .filling ∧
      coreStep s = s.issueFrame (encodeSeq s.cfg (fillFrame s.cfg s.pos.toNat))) ∨
    (s.curOp = some .run ∧ s.ph = .issue ∧ s.anim = .allOff ∧ coreStep s = s.issueFrame (offBuffer s.cfg)) ∨
    (coreStep s = s ∧ ¬ (s.curOp = some .run ∧ s.ph = .issue ∧ (s.anim = .filling ∨ s.anim = .allOff))) := by
  unfold coreStep
  split
  · next h1 h2 h3 => exact .inl ⟨h1, h2, h3, rfl⟩
  · next h1 h2 h3 => exact .inr (.inl ⟨h1, h2, h3, rfl⟩)
  · next h1 h2 =>
    refine .inr (.inr ⟨rfl, ?_⟩)
    rintro ⟨a, b, c | c⟩
    · exact h1 a b c
    · exact h2 a b c

/-- A Transport move that answers next: nothing was outstanding on the transport port, or a listed response ran the
continuation of the command in progress. -/
theorem transportStep_cases {r : Response} {s t : State} (h : transportStep r s = .next t) :
    (t = s ∧ (s.pending = none ∨ ∃ d, s.pending = some (.wait d))) ∨
    (∃ q, s.pending = some q ∧ (∀ d, q ≠ .wait d) ∧ r ∈ q.listed ∧ continuation q r (s.answer r) = some t) := by
  unfold transportStep at h
  split at h
  · next hq => exact .inl ⟨by simpa using h.symm, .inl hq⟩
  · next d hq => exact .inl ⟨by simpa using h.symm, .inr ⟨d, hq⟩⟩
  · next o q hw hq =>
    split at h
    · next hr =>
      split at h
      · next u hu =>
        obtain rfl : u = t := by simpa using h
        refine .inr ⟨q, hq, ?_, hr, hu⟩
        rintro d rfl
        exact hw d rfl
      · simp at h
    · simp at h

/-- A Timer move that answers next: no wait was outstanding, or a wait of a run completed. -/
theorem timerStep_cases {s t : State} (h : timerStep s = .next t) :
    (t = s ∧ ∀ d, s.pending ≠ some (.wait d)) ∨
    (∃ d, s.pending = some (.wait d) ∧ s.curOp = some .run ∧ runWaited (s.answer .done) = some t) := by
  unfold timerStep at h
  split at h
  · next d hq hc =>
    split at h
    · next u hu =>
      obtain rfl : u = t := by simpa using h
      exact .inr ⟨d, hq, hc, hu⟩
    · simp at h
  · simp at h
  · refine .inl ⟨by simpa using h.symm, ?_⟩
    intro d hd
    simp_all

/-- What the command in progress does when answered. -/
theorem continuation_cases {q : PortRequest} {r : Response} {s t : State} (h : continuation q r s = some t) :
    (s.curOp = some .openTransport ∧ t = openAnswered r s) ∨
    (s.curOp = some .configure ∧ t = configureAnswered s) ∨
    (s.curOp = some .transmit ∧ t = transmitAnswered r s) ∨
    (s.curOp = some .shutdown ∧ t = shutdownAnswered s) ∨
    (s.curOp = some .run ∧ runAnswered r s = some t) := by
  unfold continuation at h
  cases q with
  | wait d => cases h
  | openT b d =>
    obtain ⟨hc, h⟩ := Option.ite_none_right_eq_some.mp h
    exact .inl ⟨hc, (Option.some.inj h).symm⟩
  | configureT k m =>
    obtain ⟨hc, h⟩ := Option.ite_none_right_eq_some.mp h
    exact .inr (.inl ⟨hc, (Option.some.inj h).symm⟩)
  | closeT =>
    obtain ⟨hc, h⟩ := Option.ite_none_right_eq_some.mp h
    exact .inr (.inr (.inr (.inl ⟨hc, (Option.some.inj h).symm⟩)))
  | xfer bs =>
    dsimp only at h
    split at h
    · next hc => exact .inr (.inr (.inl ⟨hc, (Option.some.inj h).symm⟩))
    · obtain ⟨hc, h⟩ := Option.ite_none_right_eq_some.mp h
      exact .inr (.inr (.inr (.inr ⟨hc, h⟩)))

/-- A run's transfer was answered in Filling or in AllOff. -/
theorem runAnswered_cases {r : Response} {s t : State} (h : runAnswered r s = some t) :
    (s.anim = .filling ∧ s.ph = .xferWait ∧ t = if r = .ok then fillSent s else s.takeError .transportIoError) ∨
    (s.anim = .allOff ∧ s.ph = .xferWait ∧ t = if r = .ok then offSent s else s.takeError .transportIoError) := by
  unfold runAnswered at h
  split at h <;> simp_all

/-- A run's wait completed in Filling or in Paused. -/
theorem runWaited_cases {s t : State} (h : runWaited s = some t) :
    (s.anim = .filling ∧ s.ph = .delayWait ∧ t = delayDone s) ∨
    (s.anim = .paused ∧ s.ph = .pauseWait ∧ t = pauseDone s) := by
  unfold runWaited at h
  split at h <;> simp_all

/-- A CTRL write that answers next: BUSY was 0, and the word was illegal or a command. -/
theorem command_cases {v : Word} {s t : State} (h : command v s = .next t) :
    s.busy = false ∧ ((∃ e, decode v = .error e ∧ t = s.setErr .illegalCommand) ∨
      ∃ i, decode v = .ok i ∧ exec i s = .next t) := by
  unfold command at h
  split at h
  · simp at h
  · next hb =>
    refine ⟨by simpa using hb, ?_⟩
    split at h
    · next e he => exact .inl ⟨e, he, by simpa using h.symm⟩
    · next i hi => exact .inr ⟨i, hi, h⟩

/-- The four registers the host can write. -/
def Reg.writable : Reg → Bool
  | .delay | .reps | .frameLen | .fillIndex => true
  | _ => false

theorem writeReg_readOnly (v : Word) (s : State) (r : Reg) (h : r.writable = false) : s.writeReg v r = s := by
  cases r <;> simp_all [Reg.writable, State.writeReg]

/-- A host access that answers next: a read, a command, or a write to storage or to something read-only. -/
theorem hostStep_cases {x : HostAccess} {s t : State} (h : hostStep x s = .next t) :
    (∃ a v, x = .read a .w32 ∧ s.readPlace (placeAt s.cfg a.toNat) = some v ∧ t = s.noteRead a v) ∨
    (∃ a v, x = .write a .w32 v ∧ placeAt s.cfg a.toNat = .reg .ctrl ∧ command v s = .next t) ∨
    (∃ a v r, x = .write a .w32 v ∧ placeAt s.cfg a.toNat = .reg r ∧ r ≠ .ctrl ∧ t = s.writeReg v r) ∨
    (∃ a v j, x = .write a .w32 v ∧ placeAt s.cfg a.toNat = .color j ∧ t = s.writeColor j (colorOfWord v)) ∨
    (∃ a v m, x = .write a .w32 v ∧ placeAt s.cfg a.toNat = .outbuf m ∧ t = s) := by
  have form : ∀ a w, accessForm a w = none → w = .w32 := by
    intro a w hf
    unfold accessForm at hf
    by_cases hw : w = .w32
    · exact hw
    · simp [hw] at hf
  unfold hostStep at h
  split at h
  · next a w =>
    split at h
    · simp at h
    · next hf =>
      obtain rfl := form a w hf
      split at h
      · next v hv => exact .inl ⟨a, v, rfl, hv, by simpa using h.symm⟩
      · simp at h
  · next a w v =>
    split at h
    · simp at h
    · next hf =>
      obtain rfl := form a w hf
      refine .inr ?_
      cases hp : placeAt s.cfg a.toNat with
      | reg r =>
        rw [hp] at h
        by_cases hr : r = .ctrl
        · subst hr
          exact .inl ⟨a, v, rfl, hp, h⟩
        · refine .inr (.inl ⟨a, v, r, rfl, hp, hr, ?_⟩)
          cases r <;> simp_all [writePlace]
      | color j =>
        rw [hp] at h
        exact .inr (.inr (.inl ⟨a, v, j, rfl, hp, by simpa [writePlace] using h.symm⟩))
      | outbuf m =>
        rw [hp] at h
        exact .inr (.inr (.inr ⟨a, v, m, rfl, hp, by simpa [writePlace] using h.symm⟩))
      | unmapped =>
        rw [hp] at h
        simp [writePlace] at h

/-- Every command answers a next state in every state (60_exceptions.md R170: it completes, with OK or with a code). -/
theorem exec_next (i : Instr) (s : State) : ∃ t, exec i s = .next t := by
  cases i <;>
    simp only [exec, execNop, execOpen, execConfigure, execEncode, execGenOff, execGenFill, execTransmit, execRun,
      execShutdown] <;>
    (repeat' split) <;> exact ⟨_, rfl⟩

/-- A step that answers next: no move was to come, or one move was made. -/
theorem step_cases {s t : State} (h : step s = .next t) :
    (s.schedule = [] ∧ t = s) ∨ ∃ m rest, s.schedule = m :: rest ∧ moveStep m { s with schedule := rest } = .next t := by
  unfold step scheduledStep at h
  split at h
  · next hs => exact .inl ⟨hs, by simpa using h.symm⟩
  · next m rest hs => exact .inr ⟨m, rest, hs, h⟩

end Sys2Proof.Machine
end

