-- ==== Sys2Proof/Tests/Slice0.lean ====
section
/-! SUPPORT. Slice0.lean: tests of single steps, with expected values from 95_test_vectors.md (the vector is named) or worked
out by hand from the rule named, and a witness for the hypotheses of every statement. -/

namespace Sys2Proof.Tests
open Sys2Proof.Machine

/-! Helpers. -/

/-- The test instantiation of 95_test_vectors.md, with `n` LEDs. -/
def testCfg (n : Nat) : Cfg where
  ledCount := n
  bus := 1
  device := 2
  clockHz := 3
  spiMode := 0
  pulseHigh := 0xF8#8
  pulseLow := 0xC0#8
  colorRed := ⟨255#8, 0#8, 0#8⟩
  colorGreen := ⟨0#8, 255#8, 0#8⟩
  colorBlue := ⟨0#8, 0#8, 255#8⟩
  pauseDelay := 100#32
  delayUnit := 0
  base := 0x10000000

def wr (a : Offset) (v : Word) : Move := .host (.write a .w32 v)
def rd (a : Offset) : Move := .host (.read a .w32)

/-- `n` LEDs, right after reset. -/
def start (n : Nat) : State := State.resetWith (testCfg n)
/-- Where OPEN and CONFIGURE have left the block, HIST cleared for brevity. -/
def configured (n : Nat) : State := { start n with lc := .configured, delay := 7#32, reps := 2#32 }
/-- An OPEN is waiting for its answer. -/
def opening (n : Nat) : State :=
  { start n with
    busy := true, curOp := some .openTransport, pending := some (.openT 1 2), hist := [⟨.openT 1 2, none⟩] }
/-- A CONFIGURE is waiting for its answer. -/
def configuring (n : Nat) : State :=
  { start n with
    lc := .opened, busy := true, curOp := some .configure, pending := some (.configureT 3 0)
    hist := [⟨.configureT 3 0, none⟩] }
/-- A CLOSE is waiting for its answer. -/
def closing (n : Nat) : State :=
  { configured n with
    busy := true, curOp := some .shutdown, pending := some .closeT, hist := [⟨.closeT, none⟩] }
/-- A TRANSMIT of nothing is waiting for its answer. -/
def transmitting (n : Nat) : State :=
  { configured n with
    busy := true, curOp := some .transmit, pending := some (.xfer []), xferCount := 1#32
    hist := [⟨.xfer [], none⟩] }
/-- A run of two repetitions at the control point (`a`, `p`), waiting for `q`. -/
def running (n : Nat) (a : Animator) (p : Phase) (q : Option PortRequest) : State :=
  { configured n with
    busy := true, curOp := some .run, anim := a, ph := p, pending := q, runDelay := 7#32, runReps := 2#32
    hist := q.toList.map (fun r => ⟨r, none⟩) }
/-- The same with a schedule. -/
def withMoves (s : State) (ms : List Move) : State := { s with schedule := ms }

/-- What `f` says of the state after the next step, if there is one. -/
def after {α : Type} (s : State) (f : State → α) : Option α :=
  match step s with
  | .next t => some (f t)
  | _ => none
/-- The refusal the next step ends in, if it does. -/
def refusal (s : State) : Option Refusal :=
  match step s with
  | .refused r => some r
  | _ => none

def hi8 : List Byte := List.replicate 8 0xF8#8
def lo8 : List Byte := List.replicate 8 0xC0#8
/-- V1, from its hex column. -/
def v1 : List Byte :=
  [0xC0#8, 0xC0#8, 0xC0#8, 0xC0#8, 0xC0#8, 0xC0#8, 0xF8#8, 0xC0#8] ++
  [0xC0#8, 0xC0#8, 0xC0#8, 0xC0#8, 0xC0#8, 0xC0#8, 0xC0#8, 0xF8#8] ++
  [0xC0#8, 0xC0#8, 0xC0#8, 0xC0#8, 0xC0#8, 0xF8#8, 0xC0#8, 0xC0#8]

/-! Well-formedness: every check refuses an ill-formed term. -/

theorem test_wf_ctrl_mbz : ctrlWordLegal 0x00000103#32 = false := by decide
theorem test_wf_ctrl_mbz_top : ctrlWordLegal 0x80000000#32 = false := by decide
theorem test_wf_ctrl_op : ctrlWordLegal 0x00000009#32 = false := by decide
theorem test_wf_ctrl_last : ctrlWordLegal 0x00000008#32 = true := by decide
theorem test_wf_cfg_zero_leds : (testCfg 0).wf = false := by decide
theorem test_wf_cfg_too_many_leds : (testCfg 65536).wf = false := by decide
theorem test_wf_cfg_most_leds : (testCfg 65535).wf = true := by decide
theorem test_wf_cfg_equal_pulses : { testCfg 2 with pulseHigh := 0xC0#8 }.wf = false := by decide

/-! Decoding: each word bit by bit from R70 and R71, bits [31:8] and then OP. -/

theorem test_decode_nop : decode 0b000000000000000000000000_00000000#32 = .ok .nop := by rfl
theorem test_decode_open : decode 0b000000000000000000000000_00000001#32 = .ok .openTransport := by rfl
theorem test_decode_configure : decode 0b000000000000000000000000_00000010#32 = .ok .configure := by rfl
theorem test_decode_encode : decode 0b000000000000000000000000_00000011#32 = .ok .encode := by rfl
theorem test_decode_genOff : decode 0b000000000000000000000000_00000100#32 = .ok .genOff := by rfl
theorem test_decode_genFill : decode 0b000000000000000000000000_00000101#32 = .ok .genFill := by rfl
theorem test_decode_transmit : decode 0b000000000000000000000000_00000110#32 = .ok .transmit := by rfl
theorem test_decode_run : decode 0b000000000000000000000000_00000111#32 = .ok .run := by rfl
theorem test_decode_shutdown : decode 0b000000000000000000000000_00001000#32 = .ok .shutdown := by rfl
theorem test_decode_bit_8 : decode 0b000000000000000000000001_00000011#32 = .error .mustBeZero := by rfl

/-! Commands, one step each. -/

/-- V23. -/
theorem test_nop : after (withMoves { start 2 with err := .badState } [wr 0x000#22 0x0#32])
    (fun t => (t.errWord, t.statusWord)) = some (0x00#32, 0x00000000#32) := by decide
/-- V24. -/
theorem test_open_ok : after (withMoves (opening 2) [.transport .ok]) (fun t => (t.statusWord, t.hist)) =
    some (0x00000001#32, [⟨.openT 1 2, some .ok⟩]) := by decide
/-- V25. -/
theorem test_open_unavailable : after (withMoves (opening 2) [.transport .unavailable])
    (fun t => (t.statusWord, t.errWord)) = some (0x00000004#32, 0x01#32) := by decide
/-- V27. -/
theorem test_configure_unopened : after (withMoves (start 2) [wr 0x000#22 0x2#32])
    (fun t => (t.errWord, t.lc, t.pending)) = some (0x04#32, .unopened, none) := by decide
/-- V29. -/
theorem test_configure_twice : after (withMoves (configured 2) [wr 0x000#22 0x2#32]) (fun t => t.errWord) =
    some 0x04#32 := by decide
/-- V8h: COLOR[0] = 0x00010204. -/
theorem test_encode_v1 : after
    (withMoves ({ start 2 with frameLen := 1#32 }.writeColor 0 ⟨1#8, 2#8, 4#8⟩) [wr 0x000#22 0x3#32])
    (fun t => (t.outBytes, t.outLen, t.lc)) = some (v1, 24#32, .unopened) := by decide
/-- V8g, V42. -/
theorem test_encode_too_long : after (withMoves { start 2 with frameLen := 3#32 } [wr 0x000#22 0x3#32])
    (fun t => (t.errWord, t.outLen, t.mem)) = some (0x05#32, 0#32, []) := by decide
/-- V8. -/
theorem test_genOff : after (withMoves (start 2) [wr 0x000#22 0x4#32]) (fun t => (t.outBytes, t.outLen)) =
    some (lo8 ++ lo8 ++ lo8 ++ lo8 ++ lo8 ++ lo8, 48#32) := by decide
/-- V13: red, then green. -/
theorem test_genFill : after (withMoves { start 2 with fillIndex := 1#32 } [wr 0x000#22 0x5#32]) (fun t => t.outBytes) =
    some (lo8 ++ hi8 ++ lo8 ++ hi8 ++ lo8 ++ lo8) := by decide
/-- V12. -/
theorem test_genFill_past_strip : after (withMoves { start 5 with fillIndex := 5#32 } [wr 0x000#22 0x5#32])
    (fun t => (t.errWord, t.outLen)) = some (0x05#32, 0#32) := by decide
/-- V51, and V30's empty request. -/
theorem test_transmit_wraps : after (withMoves { configured 2 with xferCount := 0xFFFFFFFF#32 } [wr 0x000#22 0x6#32])
    (fun t => (t.xferCount, t.hist)) = some (0x00000000#32, [⟨.xfer [], none⟩]) := by decide
/-- V28. -/
theorem test_transmit_opened : after (withMoves { start 2 with lc := .opened } [wr 0x000#22 0x6#32])
    (fun t => (t.errWord, t.xferCount)) = some (0x04#32, 0#32) := by decide
/-- V14. -/
theorem test_run_none : after (withMoves { configured 3 with reps := 0#32, repCount := 9#32 } [wr 0x000#22 0x7#32])
    (fun t => (t.anim, t.busy, t.errWord, t.repCount, t.hist)) = some (.done, false, 0#32, 0#32, []) := by decide
/-- V22's STATUS: BUSY = 1, AS = FILLING, LC = CONFIGURED. -/
theorem test_run : after (withMoves (configured 1) [wr 0x000#22 0x7#32]) (fun t => t.statusWord) =
    some 0x00000112#32 := by decide
/-- V31. -/
theorem test_shutdown_configured : after (withMoves (configured 2) [wr 0x000#22 0x8#32])
    (fun t => (t.hist, t.lc, t.busy)) = some ([⟨.closeT, none⟩], .configured, true) := by decide
/-- V33. -/
theorem test_shutdown_unopened : after (withMoves (start 2) [wr 0x000#22 0x8#32])
    (fun t => (t.hist, t.statusWord)) = some ([], 0x00000003#32) := by decide

/-! Illegal commands and the order of checks. -/

/-- V38. -/
theorem test_illegal_mbz : after (withMoves { start 2 with frameLen := 1#32 } [wr 0x000#22 0x103#32])
    (fun t => (t.errWord, t.outLen)) = some (0x03#32, 0#32) := by decide
/-- V40. -/
theorem test_illegal_before_state : after (withMoves (start 2) [wr 0x000#22 0x106#32]) (fun t => t.errWord) =
    some 0x03#32 := by decide
/-- V41. -/
theorem test_ctrl_write_while_busy : refusal (withMoves (opening 2) [wr 0x000#22 0x0#32]) =
    some .ctrlWriteWhileBusy := by decide

/-! The sequencer, one step each. -/

/-- V15's first transfer: 24 bytes of red, V2. -/
theorem test_fill_issue : after (withMoves (running 1 .filling .issue none) [.core]) (fun t => (t.pending, t.outBytes)) =
    some (some (.xfer (lo8 ++ hi8 ++ lo8)), lo8 ++ hi8 ++ lo8) := by decide
/-- P4: after the last fill frame the wait DELAY still comes (R126). -/
theorem test_fill_sent : after (withMoves (running 1 .filling .xferWait (some (.xfer []))) [.transport .ok])
    (fun t => (t.hist, t.ph)) = some ([⟨.xfer [], some .ok⟩, ⟨.wait 7#32, none⟩], .delayWait) := by decide
/-- V17. -/
theorem test_fill_failed : after (withMoves (running 3 .filling .xferWait (some (.xfer []))) [.transport .ioError])
    (fun t => (t.anim, t.errWord, t.pos, t.busy, t.hist)) =
    some (.aborted, 0x02#32, 0#32, false, [⟨.xfer [], some .ioError⟩]) := by decide
/-- R128, both branches. -/
theorem test_fill_delay_next : after (withMoves (running 2 .filling .delayWait (some (.wait 7#32))) [.timer])
    (fun t => (t.anim, t.ph, t.pos)) = some (.filling, .issue, 1#32) := by decide
theorem test_fill_delay_last : after (withMoves (running 1 .filling .delayWait (some (.wait 7#32))) [.timer])
    (fun t => (t.anim, t.ph, t.pos)) = some (.allOff, .issue, 0#32) := by decide
/-- V15: 24 L. -/
theorem test_off_issue : after (withMoves (running 1 .allOff .issue none) [.core]) (fun t => (t.pending, t.xferCount)) =
    some (some (.xfer (lo8 ++ lo8 ++ lo8)), 1#32) := by decide
/-- V15: WAIT(100) while repetitions remain. -/
theorem test_off_sent_pauses : after (withMoves (running 1 .allOff .xferWait (some (.xfer []))) [.transport .ok])
    (fun t => (t.anim, t.ph, t.repCount, t.pending)) = some (.paused, .pauseWait, 1#32, some (.wait 100#32)) := by decide
/-- V20: the last repetition. -/
theorem test_off_sent_done : after
    (withMoves { running 1 .allOff .xferWait (some (.xfer [])) with repCount := 1#32 } [.transport .ok])
    (fun t => (t.statusWord, t.repCount, t.pending)) = some (0x00000042#32, 2#32, none) := by decide
/-- V16. -/
theorem test_off_failed : after
    (withMoves { running 2 .allOff .xferWait (some (.xfer [])) with pos := 1#32 } [.transport .ioError])
    (fun t => (t.anim, t.errWord, t.repCount, t.pos)) = some (.aborted, 0x02#32, 0#32, 1#32) := by decide
/-- R132. -/
theorem test_pause_over : after
    (withMoves { running 2 .paused .pauseWait (some (.wait 100#32)) with pos := 1#32 } [.timer])
    (fun t => (t.anim, t.ph, t.pos)) = some (.filling, .issue, 0#32) := by decide

/-! The window. -/

/-- V43. -/
theorem test_read_ctrl : after (withMoves (configured 2) [rd 0x000#22]) (fun t => t.reads) =
    some [(0x000#22, 0x00000000#32)] := by decide
/-- V44. -/
theorem test_write_status : after (withMoves (configured 2) [wr 0x004#22 0xFFFFFFFF#32]) (fun t => t.statusWord) =
    some 0x00000002#32 := by decide
/-- V45. -/
theorem test_write_delay : after (withMoves (opening 2) [wr 0x010#22 0xFFFFFFFF#32]) (fun t => t.delay) =
    some 0xFFFFFFFF#32 := by decide
/-- V46. -/
theorem test_read_led_count : after (withMoves (start 5) [rd 0x00C#22]) (fun t => t.reads) =
    some [(0x00C#22, 0x00000005#32)] := by decide
/-- V47. -/
theorem test_read_unmapped : refusal (withMoves (start 2) [rd 0x030#22]) = some .accessUnmapped := by decide
/-- V48. -/
theorem test_read_16_bits : refusal (withMoves (start 2) [.host (.read 0x004#22 .w16)]) = some .accessWidth := by decide
theorem test_read_misaligned : refusal (withMoves (start 2) [rd 0x006#22]) = some .accessMisaligned := by decide
/-- V49, and the last entry that is mapped. -/
theorem test_read_past_colors : refusal (withMoves (start 2) [rd 0x040008#22]) = some .accessUnmapped := by decide
/-- V8j. -/
theorem test_color_top_byte : after (withMoves (start 2) [wr 0x040004#22 0xFF010204#32])
    (fun t => t.readPlace (.color 1)) = some (some 0x00010204#32) := by decide
/-- V50. -/
theorem test_read_outbuf : after (withMoves ((start 2).writeOut v1) [rd 0x200004#22]) (fun t => t.reads) =
    some [(0x200004#22, 0xC0F8C0C0#32)] := by decide

/-! The encoder. -/

/-- V7a and its decode check: (0x12, 0x34, 0x56), bits in the order G, R, B. -/
theorem test_encColor_v7a : encColor (testCfg 1) ⟨0x12#8, 0x34#8, 0x56#8⟩ =
    [0xC0#8, 0xC0#8, 0xF8#8, 0xF8#8, 0xC0#8, 0xF8#8, 0xC0#8, 0xC0#8] ++
    [0xC0#8, 0xC0#8, 0xC0#8, 0xF8#8, 0xC0#8, 0xC0#8, 0xF8#8, 0xC0#8] ++
    [0xC0#8, 0xF8#8, 0xC0#8, 0xF8#8, 0xC0#8, 0xF8#8, 0xF8#8, 0xC0#8] := by decide
/-- S2. -/
theorem test_decode_buffer_v1 : decodeBuffer (testCfg 1) v1 = some [⟨1#8, 2#8, 4#8⟩] := by decide
theorem test_decode_buffer_short : decodeBuffer (testCfg 1) (v1.take 23) = none := by decide

/-! Witnesses: concrete states and operands that meet the hypotheses of each statement, clause by clause. -/

/-- A state between commands, with nothing written, meets the invariant. -/
theorem invariant_resting (s : State) (hw : s.cfg.wf = true) (hb : s.busy = false) (hc : s.curOp = none)
    (hq : s.pending = none) (hp : s.ph = .none) (ha : s.anim.resting = true) (ho : s.outLen = 0#32)
    (hn : s.pos.toNat < s.cfg.ledCount) (hm : s.mem = []) (hh : s.hist = []) : Invariant s where
  cfgLegal := hw
  control := .resting hb hc hq hp ha
  outLenMultiple := by simp [ho]
  outLenBound := by simp [ho]
  posBound := hn
  closes := by unfold closesAllowed; split <;> simp [hh, closeCount, hc]
  answered := by simp [histAnswered, hq, hh]
  memWf := by simp [hm]
  memStored := by simp [hm]
  outWritten := by simp [ho]

theorem witness_invariant_configured (ms : List Move) : Invariant (withMoves (configured 2) ms) :=
  invariant_resting _ rfl rfl rfl rfl rfl rfl rfl (show 0 < 2 by decide) rfl rfl

theorem witness_invariant_start (ms : List Move) : Invariant (withMoves (start 2) ms) :=
  invariant_resting _ rfl rfl rfl rfl rfl rfl rfl (show 0 < 2 by decide) rfl rfl

/-- A state that waits for the answer to its one request, with nothing written, meets the invariant. -/
theorem invariant_waiting (s : State) (q : PortRequest) (hw : s.cfg.wf = true) (hc : Control s) (hq : s.pending = some q)
    (ho : s.outLen = 0#32) (hn : s.pos.toNat < s.cfg.ledCount) (hm : s.mem = []) (hh : s.hist = [⟨q, none⟩])
    (hk : closesAllowed s) : Invariant s where
  cfgLegal := hw
  control := hc
  outLenMultiple := by simp [ho]
  outLenBound := by simp [ho]
  posBound := hn
  closes := hk
  answered := by unfold histAnswered; rw [hq]; exact ⟨[], by simp [hh], by simp⟩
  memWf := by simp [hm]
  memStored := by simp [hm]
  outWritten := by simp [ho]

theorem witness_invariant_opening (ms : List Move) : Invariant (withMoves (opening 2) ms) :=
  invariant_waiting _ (.openT 1 2) rfl (.opening rfl rfl rfl rfl rfl rfl) rfl rfl (show 0 < 2 by decide) rfl rfl
    rfl

theorem witness_invariant_transmitting (ms : List Move) : Invariant (withMoves (transmitting 2) ms) :=
  invariant_waiting _ (.xfer []) rfl (.transmitting rfl rfl [] rfl rfl rfl rfl) rfl rfl (show 0 < 2 by decide) rfl rfl
    rfl

theorem witness_invariant_running (ms : List Move) :
    Invariant (withMoves (running 2 .filling .xferWait (some (.xfer []))) ms) :=
  invariant_waiting _ (.xfer []) rfl (.running rfl rfl rfl (.fillSent rfl rfl [] rfl) (show 0 < 2 by decide)) rfl rfl (show 0 < 2 by decide)
    rfl rfl rfl

/-! Encoding and the step. -/

theorem witness_DecodeAndEncodeAgree : Instr.wellFormed .shutdown = true := rfl

/-- Both disjuncts at their boundaries, and the second clause at both ends. -/
theorem witness_IllegalWordWritesOnlyErr :
    ((withMoves (start 2) [wr 0x000#22 0x103#32]).busy = false ∧ (0x103#32).extractLsb' 8 24 ≠ 0#24) ∧
    (0x09 ≤ ((0x09#32).extractLsb' 0 8).toNat ∧ 0x09 ≤ ((0xFF#32).extractLsb' 0 8).toNat) ∧
    ((0x08#32).extractLsb' 8 24 = 0#24 ∧ ((0x08#32).extractLsb' 0 8).toNat < 0x09) := by decide

theorem witness_StepRunsTheDecodedCommand :
    (withMoves (start 2) [wr 0x000#22 0x8#32]).schedule = .host (.write 0x000#22 .w32 0x8#32) :: [] ∧
    (withMoves (start 2) [wr 0x000#22 0x8#32]).busy = false ∧ decode 0x8#32 = .ok .shutdown := ⟨rfl, rfl, rfl⟩

/-- One for each clause: BUSY; an illegal value by MBZ and one by OP, at the first that is no opcode; BAD_STATE; BAD_ARGUMENT
at the first value that fails; both checks passed at the last that does. -/
theorem witness_ChecksComeInOrder :
    ((withMoves (opening 2) [wr 0x000#22 0x3#32]).schedule = .host (.write 0x000#22 .w32 0x3#32) :: [] ∧
      (opening 2).busy = true) ∧
    ((start 2).busy = false ∧ (0x103#32).extractLsb' 8 24 ≠ 0#24 ∧ ∀ i, opcode i ≠ (0x09#32).extractLsb' 0 8) ∧
    (opcode .transmit = (0x6#32).extractLsb' 0 8 ∧ lifecycleAllows (start 2).lc .transmit = false) ∧
    (opcode .encode = (0x3#32).extractLsb' 0 8 ∧ lifecycleAllows (start 2).lc .encode = true ∧
      argumentOk { start 2 with frameLen := 3#32 } .encode = false) ∧
    (opcode .genFill = (0x5#32).extractLsb' 0 8 ∧ lifecycleAllows (start 2).lc .genFill = true ∧
      argumentOk { start 2 with fillIndex := 1#32 } .genFill = true) := by
  refine ⟨⟨rfl, rfl⟩, ⟨rfl, by decide, ?_⟩, ⟨rfl, rfl⟩, ⟨rfl, rfl, by decide⟩, ⟨rfl, rfl, by decide⟩⟩
  intro i
  cases i <;> decide

/-! The commands. -/

theorem witness_OpenFollowsItsRule :
    (start 2).lc = .unopened ∧ (configured 2).lc ≠ .unopened ∧
    ((opening 2).curOp = some .openTransport ∧ (opening 2).pending = some (.openT 1 2) ∧ (opening 2).ph = .none ∧
      (opening 2).hist = [] ++ [⟨.openT 1 2, none⟩]) ∧
    (withMoves (opening 2) [.transport .ok]).schedule = .transport .ok :: [] ∧
    (withMoves (opening 2) [.transport .unavailable]).schedule = .transport .unavailable :: [] := by decide

theorem witness_ConfigureFollowsItsRule :
    { start 2 with lc := .opened }.lc = .opened ∧ (start 2).lc ≠ .opened ∧
    ((configuring 2).curOp = some .configure ∧ (configuring 2).pending = some (.configureT 3 0) ∧
      (configuring 2).ph = .none ∧ (configuring 2).hist = [] ++ [⟨.configureT 3 0, none⟩]) ∧
    (withMoves (configuring 2) [.transport .ok]).schedule = .transport .ok :: [] := by decide

/-- FRAME_LEN at LED_COUNT, and one above. -/
theorem witness_EncodeFollowsItsRule :
    (testCfg 2).wf = true ∧ { start 2 with frameLen := 2#32 }.frameLen.toNat ≤ (testCfg 2).ledCount ∧
    (testCfg 2).ledCount < { start 2 with frameLen := 3#32 }.frameLen.toNat := by decide

theorem witness_GenOffFollowsItsRule : (start 65535).cfg.wf = true := by decide

/-- FILL_INDEX one below LED_COUNT, and at it. -/
theorem witness_GenFillFollowsItsRule :
    (testCfg 2).wf = true ∧ { start 2 with fillIndex := 1#32 }.fillIndex.toNat < (testCfg 2).ledCount ∧
    (testCfg 2).ledCount ≤ { start 2 with fillIndex := 2#32 }.fillIndex.toNat := by decide

theorem witness_TransmitFollowsItsRule :
    (configured 2).lc = .configured ∧ (start 2).lc ≠ .configured ∧
    ((transmitting 2).curOp = some .transmit ∧ (transmitting 2).pending = some (.xfer []) ∧
      (transmitting 2).ph = .none ∧ (transmitting 2).hist = [] ++ [⟨.xfer [], none⟩]) ∧
    (withMoves (transmitting 2) [.transport .ok]).schedule = .transport .ok :: [] ∧
    (withMoves (transmitting 2) [.transport .ioError]).schedule = .transport .ioError :: [] := by decide

theorem witness_RunIsAcceptedByItsRule :
    ((configured 2).lc = .configured ∧ (configured 2).reps ≠ 0#32) ∧
    ({ configured 2 with reps := 0#32 }.lc = .configured ∧ { configured 2 with reps := 0#32 }.reps = 0#32) ∧
    (start 2).lc ≠ .configured := by decide

theorem witness_ShutdownFollowsItsRule :
    (({ start 2 with lc := .opened }.lc = .opened) ∧ (configured 2).lc = .configured) ∧
    ((start 2).lc = .unopened ∧ { start 2 with lc := .startupFailed }.lc = .startupFailed) ∧
    { start 2 with lc := .released }.lc = .released ∧
    ((closing 2).curOp = some .shutdown ∧ (closing 2).pending = some .closeT ∧ (closing 2).ph = .none ∧
      (closing 2).hist = [] ++ [⟨.closeT, none⟩]) ∧
    (withMoves (closing 2) [.transport .ok]).schedule = .transport .ok :: [] := by decide

/-- One request of each kind, with a response that is not listed for it. -/
theorem witness_UnlistedResponsesAreRefused :
    ((opening 2).pending = some (.openT 1 2) ∧
      (withMoves (opening 2) [.transport .ioError]).schedule = .transport .ioError :: []) ∧
    ((configuring 2).pending = some (.configureT 3 0) ∧ Response.ioError ≠ .ok) ∧
    ((transmitting 2).pending = some (.xfer []) ∧
      (withMoves (transmitting 2) [.transport .unavailable]).schedule = .transport .unavailable :: []) ∧
    ((closing 2).pending = some .closeT ∧ Response.done ≠ .ok) := by decide

/-! The sequencer. -/

/-- POS at its last value. -/
theorem witness_FillStepIssuesItsFrame :
    let s := withMoves { running 2 .filling .issue none with pos := 1#32 } [.core]
    s.cfg.wf = true ∧ s.pos.toNat < s.cfg.ledCount ∧ s.curOp = some .run ∧ s.anim = .filling ∧ s.ph = .issue ∧
    s.schedule = .core :: [] := by decide

theorem witness_FillStepAnswered :
    let s := running 2 .filling .xferWait (some (.xfer []))
    (s.curOp = some .run ∧ s.anim = .filling ∧ s.ph = .xferWait ∧ s.pending = some (.xfer []) ∧
      s.hist = [] ++ [⟨.xfer [], none⟩]) ∧
    (withMoves s [.transport .ok]).schedule = .transport .ok :: [] ∧
    (withMoves s [.transport .ioError]).schedule = .transport .ioError :: [] := by decide

/-- POS one below the last fill step, and at it. -/
theorem witness_FillDelayLeadsOn :
    let s := withMoves (running 2 .filling .delayWait (some (.wait 7#32))) [.timer]
    (s.curOp = some .run ∧ s.anim = .filling ∧ s.ph = .delayWait ∧ s.pending = some (.wait 7#32) ∧
      s.hist = [] ++ [⟨.wait 7#32, none⟩] ∧ s.schedule = .timer :: []) ∧
    s.pos.toNat + 1 < s.cfg.ledCount ∧ { s with pos := 1#32 }.cfg.ledCount ≤ { s with pos := 1#32 }.pos.toNat + 1 := by
  decide

theorem witness_AllOffIssuesTheOffBuffer :
    let s := withMoves (running 2 .allOff .issue none) [.core]
    s.cfg.wf = true ∧ s.curOp = some .run ∧ s.anim = .allOff ∧ s.ph = .issue ∧ s.schedule = .core :: [] := by decide

/-- One repetition of two done, then the second; and the failure. -/
theorem witness_AllOffAnswered :
    let s := running 2 .allOff .xferWait (some (.xfer []))
    (s.curOp = some .run ∧ s.anim = .allOff ∧ s.ph = .xferWait ∧ s.pending = some (.xfer []) ∧
      s.hist = [] ++ [⟨.xfer [], none⟩]) ∧
    ((withMoves s [.transport .ok]).schedule = .transport .ok :: [] ∧ (s.repCount + 1#32).toNat < s.runReps.toNat) ∧
    { s with repCount := 1#32 }.runReps.toNat ≤ ({ s with repCount := 1#32 }.repCount + 1#32).toNat ∧
    (withMoves s [.transport .ioError]).schedule = .transport .ioError :: [] := by decide

theorem witness_PauseLeadsBackToFirstFill :
    let s := withMoves (running 2 .paused .pauseWait (some (.wait 100#32))) [.timer]
    s.curOp = some .run ∧ s.anim = .paused ∧ s.ph = .pauseWait ∧ s.pending = some (.wait 100#32) ∧
    s.hist = [] ++ [⟨.wait 100#32, none⟩] ∧ s.schedule = .timer :: [] := by decide

/-- A move that serves the run, one that does not, and one outside a run that starts it. -/
theorem witness_SequencerFollowsTheTransitionTable :
    (∃ t, Invariant (withMoves (running 2 .filling .xferWait (some (.xfer []))) [.transport .ok]) ∧
      step (withMoves (running 2 .filling .xferWait (some (.xfer []))) [.transport .ok]) = .next t ∧
      serves (.transport .ok) (running 2 .filling .xferWait (some (.xfer [])))) ∧
    (∃ t, step (withMoves (running 2 .filling .xferWait (some (.xfer []))) [.core]) = .next t ∧
      ¬ serves .core (running 2 .filling .xferWait (some (.xfer [])))) ∧
    (∃ t, Invariant (withMoves (configured 2) [wr 0x000#22 0x7#32]) ∧ (configured 2).curOp ≠ some .run ∧
      step (withMoves (configured 2) [wr 0x000#22 0x7#32]) = .next t ∧ t.anim = .filling) := by
  refine ⟨⟨_, witness_invariant_running _, rfl, .xfer [], rfl, by simp⟩, ⟨_, rfl, ?_⟩,
    ⟨_, witness_invariant_configured _, by decide, rfl, rfl⟩⟩
  rintro ⟨-, h⟩
  cases h

/-! The encoder. -/

/-- The last lane of the last color. -/
theorem witness_LaneMapping : 1 < [(testCfg 2).colorRed, (testCfg 2).colorBlue].length ∧ 2 < 3 ∧ 7 < 8 := by decide

theorem witness_DecodingInvertsEncoding :
    (testCfg 1).pulseHigh ≠ (testCfg 1).pulseLow ∧ decodeBuffer (testCfg 1) v1 = some [⟨1#8, 2#8, 4#8⟩] := by decide

theorem witness_FillFrameCyclesRedGreenBlue : 4 ≤ 4 := by decide

/-- Two states that agree in FRAME_LEN and the color and differ in LC, ERR and OUT_LEN. -/
theorem witness_EncodeDependsOnItsOperandsOnly :
    let s := { start 2 with frameLen := 1#32 }.writeColor 0 ⟨1#8, 2#8, 4#8⟩
    let s' := { s with lc := .released, err := .badState, outLen := 48#32 }
    s.cfg.wf = true ∧ s'.cfg = s.cfg ∧ s'.frameLen = s.frameLen ∧ s.frameLen.toNat ≤ s.cfg.ledCount ∧
    ∀ j, j < s.frameLen.toNat → s'.colorAt j = s.colorAt j := by
  refine ⟨rfl, rfl, rfl, by decide, ?_⟩
  intro j hj
  rfl

/-! The window. -/

/-- The last COLOR_RAM word and the last OUTBUF word of a strip of 65535, and a register. -/
theorem witness_ReadsReturnTheRegisterMap :
    (withMoves (start 65535) [rd 0x02C#22]).schedule = .host (.read 0x02C#22 .w32) :: [] ∧
    (65534 < (testCfg 65535).ledCount ∧ (testCfg 65535).ledCount ≤ 65535 ∧
      (0x07FFF8#22).toNat = 0x040000 + 4 * 65534) ∧
    (4 * 393209 < 24 * (testCfg 65535).ledCount ∧ (0x37FFE4#22).toNat = 0x200000 + 4 * 393209) := by
  refine ⟨rfl, ?_, ?_⟩ <;> decide

theorem witness_StatusRegistersHaveTheirFields : (start 65535).cfg.wf = true := by decide

/-- Two reads of OUTBUF word 0, which nothing has written, with a read of COLOR_RAM word 1 between them. -/
theorem witness_ReadsAreIdempotent : ∃ t, core.run 3
    { start 2 with
      schedule := ([0x200000#22, 0x040004#22, 0x200000#22] : List Offset).map (fun b => Move.host (.read b .w32)) ++ [] } =
    .next t := ⟨_, rfl⟩

theorem witness_WritesFollowTheAccessRights :
    (withMoves (start 2) [wr 0x010#22 0xFFFFFFFF#32]).schedule = .host (.write 0x010#22 .w32 0xFFFFFFFF#32) :: [] ∧
    0x02C#22 ∈ [0x004#22, 0x008#22, 0x00C#22, 0x020#22, 0x024#22, 0x028#22, 0x02C#22] ∧
    (4 * 11 < 24 * (testCfg 2).ledCount ∧ (testCfg 2).ledCount ≤ 65535 ∧ (0x20002C#22).toNat = 0x200000 + 4 * 11) := by
  refine ⟨rfl, ?_, ?_⟩ <;> decide

theorem witness_ColorWriteStoresOneEntry :
    (withMoves (start 2) [wr 0x040004#22 0xFF010204#32]).schedule =
      .host (.write 0x040004#22 .w32 0xFF010204#32) :: [] ∧
    Memory.wf (start 2).mem ∧ (testCfg 2).ledCount ≤ 65535 ∧ 1 < (testCfg 2).ledCount ∧
    (0x040004#22).toNat = 0x040000 + 4 * 1 := by
  refine ⟨rfl, ?_, ?_, ?_, ?_⟩ <;> decide

/-- One for each clause: a width, an alignment, the first offset past each region, and the last mapped ones. -/
theorem witness_IllFormedAccessesAreRefused :
    Width.w64 ≠ .w32 ∧ (0x002#22).toNat % 4 ≠ 0 ∧
    ((0x040008#22).toNat % 4 = 0 ∧ 0x000030 ≤ (0x040008#22).toNat ∧
      ¬ (0x040000 ≤ (0x040008#22).toNat ∧ (0x040008#22).toNat < 0x040000 + 4 * (testCfg 2).ledCount) ∧
      ¬ (0x200000 ≤ (0x040008#22).toNat ∧ (0x040008#22).toNat < 0x200000 + 24 * (testCfg 2).ledCount)) ∧
    ((0x00002C#22).toNat % 4 = 0 ∧ (0x00002C#22).toNat < 0x000030) ∧
    (0x040000 ≤ (0x040004#22).toNat ∧ (0x040004#22).toNat < 0x040000 + 4 * (testCfg 2).ledCount) ∧
    (0x200000 ≤ (0x20002C#22).toNat ∧ (0x20002C#22).toNat < 0x200000 + 24 * (testCfg 2).ledCount) := by decide

/-! The whole machine. -/

theorem witness_EveryStepKeepsTheInvariant :
    ∃ t, Invariant (withMoves (configured 2) [wr 0x000#22 0x7#32, .core]) ∧
      step (withMoves (configured 2) [wr 0x000#22 0x7#32, .core]) = .next t ∧ t.busy = true :=
  ⟨_, witness_invariant_configured _, rfl, rfl⟩

/-- A construction, and after it a command. -/
theorem witness_EveryReachableStateMeetsR45 : ∃ s t, Reachable s ∧ Reachable t ∧ s.busy = false ∧ t.busy = true := by
  have h : State.construct (testCfg 2) = .next (start 2) := rfl
  have hs := Reachable.constructed _ _ h
  exact ⟨_, _, hs, .moved (wr 0x000#22 0x1#32) _ _ hs rfl, rfl, rfl⟩

theorem witness_DutifulMovesNeverStop :
    Invariant (withMoves (opening 2) [.transport .unavailable]) ∧
    ∀ m rest, (withMoves (opening 2) [.transport .unavailable]).schedule = m :: rest →
      moveAllowed m (withMoves (opening 2) [.transport .unavailable]) := by
  refine ⟨witness_invariant_opening _, ?_⟩
  intro m rest h
  obtain ⟨rfl, rfl⟩ := List.cons.inj h
  intro q hq _
  obtain rfl : PortRequest.openT 1 2 = q := Option.some.inj hq
  decide

theorem witness_ConfigurationNeverChanges : ∃ t, step (withMoves (start 2) [.reset]) = .next t := ⟨_, rfl⟩

theorem witness_ConstructionChecksTheConfiguration :
    ((testCfg 0).ledCount = 0 ∧ 65535 < (testCfg 65536).ledCount) ∧
    { testCfg 2 with pulseHigh := 0xC0#8 }.pulseHigh = { testCfg 2 with pulseHigh := 0xC0#8 }.pulseLow ∧
    (1 ≤ (testCfg 65535).ledCount ∧ (testCfg 65535).ledCount ≤ 65535 ∧
      (testCfg 65535).pulseHigh ≠ (testCfg 65535).pulseLow) := by decide

theorem witness_LifecycleTransitionsAreThoseOfTheTable :
    ∃ t, Invariant (withMoves (opening 2) [.transport .ok]) ∧
      (∀ rest, (withMoves (opening 2) [.transport .ok]).schedule ≠ .reset :: rest) ∧
      step (withMoves (opening 2) [.transport .ok]) = .next t ∧ t.lc = .opened := by
  refine ⟨_, witness_invariant_opening _, ?_, rfl, rfl⟩
  intro rest h
  cases h

theorem witness_RunWritesOnlyItsOwnState :
    let s := withMoves (running 2 .filling .xferWait (some (.xfer []))) [.transport .ok]
    ∃ t, Invariant s ∧ s.curOp = some .run ∧ s.schedule = .transport .ok :: [] ∧ step s = .next t :=
  ⟨_, witness_invariant_running _, rfl, rfl, rfl⟩

theorem witness_OnlyTheHostWritesColorRam :
    let s := withMoves (start 2) [wr 0x000#22 0x4#32]
    ∃ t, step s = .next t ∧ (∀ rest, s.schedule ≠ .reset :: rest) ∧
      (∀ a v rest j, s.schedule = .host (.write a .w32 v) :: rest → placeAt s.cfg a.toNat ≠ .color j) ∧
      colorBase < outBase := by
  refine ⟨_, rfl, ?_, ?_, by decide⟩
  · intro rest h
    cases h
  · intro a v rest j h
    cases h
    exact fun e => Place.noConfusion (show Place.reg .ctrl = .color j from e)

/-- An answer of the Transport, and a CTRL write that makes no buffer. -/
theorem witness_OnlyFourThingsWriteOut :
    (let s := withMoves (opening 2) [.transport .ok]
     ∃ t, Invariant s ∧ step s = .next t ∧ (∀ rest, s.schedule ≠ .reset :: rest) ∧
       (∀ v rest, s.schedule ≠ .host (.write 0x000#22 .w32 v) :: rest) ∧ ∀ rest, s.schedule ≠ .core :: rest) ∧
    (∃ t, Invariant (withMoves (configured 2) [wr 0x000#22 0x7#32]) ∧
      step (withMoves (configured 2) [wr 0x000#22 0x7#32]) = .next t) ∧
    decode 0x7#32 ≠ .ok .encode ∧ decode 0x7#32 ≠ .ok .genOff ∧ decode 0x7#32 ≠ .ok .genFill := by
  have h7 : decode 0x7#32 = .ok .run := rfl
  refine ⟨⟨_, witness_invariant_opening _, rfl, ?_, ?_, ?_⟩, ⟨_, witness_invariant_configured _, rfl⟩, ?_, ?_, ?_⟩
  · intro rest h
    cases h
  · intro v rest h
    cases h
  · intro rest h
    cases h
  all_goals
    rw [h7]
    intro h
    cases h

theorem witness_ErrIsWrittenOnCompletionOnly :
    let s := withMoves (opening 2) [.transport .unavailable]
    ∃ t, Invariant s ∧ step s = .next t ∧ (∀ rest, s.schedule ≠ .reset :: rest) ∧ t.err ≠ s.err := by
  refine ⟨_, witness_invariant_opening _, rfl, ?_, by decide⟩
  intro rest h
  cases h

theorem witness_RunArgumentsAreLatched :
    let s := withMoves (running 2 .filling .issue none) [wr 0x010#22 0x1#32]
    ∃ t, s.busy = true ∧ (∀ rest, s.schedule ≠ .reset :: rest) ∧ step s = .next t ∧ t.delay ≠ s.delay := by
  refine ⟨_, rfl, ?_, rfl, by decide⟩
  intro rest h
  cases h

theorem witness_XferCountCountsTransfers :
    let s := withMoves { configured 2 with xferCount := 0xFFFFFFFF#32 } [wr 0x000#22 0x6#32]
    ∃ t, step s = .next t ∧ (∀ rest, s.schedule ≠ .reset :: rest) ∧ t.xferCount = 0#32 := by
  refine ⟨_, rfl, ?_, by decide⟩
  intro rest h
  cases h

/-- A TRANSMIT and a run, each with both answers. -/
theorem witness_IoErrorKeepsTheLastGoodFrame :
    (∀ ms, Invariant (withMoves (transmitting 2) ms)) ∧ (transmitting 2).pending = some (.xfer []) ∧
    (∀ ms, Invariant (withMoves (running 2 .filling .xferWait (some (.xfer []))) ms)) ∧
    (running 2 .filling .xferWait (some (.xfer []))).pending = some (.xfer []) ∧
    (withMoves (transmitting 2) [.transport .ioError]).schedule = .transport .ioError :: [] ∧
    (withMoves (transmitting 2) [.transport .ok]).schedule = .transport .ok :: [] :=
  ⟨witness_invariant_transmitting, rfl, witness_invariant_running, rfl, rfl, rfl⟩

theorem witness_TransportIsClosedExactlyOnce :
    Invariant (withMoves (configured 2) []) ∧ (configured 2).busy = false ∧ (configured 2).lc = .configured :=
  ⟨witness_invariant_configured _, rfl, rfl⟩

theorem witness_ResetDropsTheOutstandingRequest :
    (withMoves (opening 2) [.reset]).schedule = .reset :: [] ∧ (opening 2).pending ≠ none := by decide

/-- The moves of the witnesses below: the Host reads STATUS and writes DELAY while the run is going on. -/
def busyHost (ms : List Move) : List Move := rd 0x004#22 :: wr 0x010#22 0x9#32 :: ms

theorem busyHost_allowed (k : Nat) (r : Response) :
    (∀ m ∈ busyHost (runMoves k r), allowedDuringRun (testCfg 2) m) ∧
    (busyHost (runMoves k r)).filter (fun m => !m.fromHost) = runMoves k r := by
  have hm : ∀ m ∈ runMoves k r, m = .core ∨ (∃ q, m = .transport q) ∨ m = .timer := by
    intro m hm
    simp only [runMoves, sentAndWaited, List.mem_append, List.mem_flatten, List.mem_replicate, List.mem_cons,
      List.not_mem_nil, or_false] at hm
    rcases hm with ⟨l, ⟨-, rfl⟩, h⟩ | rfl | rfl
    · simp only [List.mem_cons, List.not_mem_nil, or_false] at h
      rcases h with rfl | rfl | rfl
      · exact .inl rfl
      · exact .inr (.inl ⟨_, rfl⟩)
      · exact .inr (.inr rfl)
    · exact .inl rfl
    · exact .inr (.inl ⟨_, rfl⟩)
  constructor
  · intro m h
    simp only [busyHost, List.mem_cons] at h
    rcases h with rfl | rfl | h
    · refine ⟨rfl, rfl, ?_⟩
      decide
    · refine ⟨rfl, rfl, ?_, ?_⟩ <;> decide
    · rcases hm m h with rfl | ⟨q, rfl⟩ | rfl <;> trivial
  · show (runMoves k r).filter _ = _
    rw [List.filter_eq_self]
    intro m h
    rcases hm m h with rfl | ⟨q, rfl⟩ | rfl <;> rfl

theorem witness_SuccessfulRunClosedForm :
    let s := configured 2
    let ms := busyHost (runMoves (s.reps.toNat * (s.cfg.ledCount + 1) - 1) .ok)
    Invariant s ∧ s.busy = false ∧ s.lc = .configured ∧ s.reps ≠ 0#32 ∧ (∀ m ∈ ms, allowedDuringRun s.cfg m) ∧
    ms.filter (fun m => !m.fromHost) = runMoves (s.reps.toNat * (s.cfg.ledCount + 1) - 1) .ok :=
  ⟨witness_invariant_configured [], rfl, rfl, by decide, (busyHost_allowed _ _).1, (busyHost_allowed _ _).2⟩

/-- The run's first transfer and its last. -/
theorem witness_FailedRunClosedForm :
    let s := configured 2
    let ms := busyHost (runMoves 5 .ioError)
    Invariant s ∧ s.busy = false ∧ s.lc = .configured ∧ 0 < s.reps.toNat * (s.cfg.ledCount + 1) ∧
    5 < s.reps.toNat * (s.cfg.ledCount + 1) ∧ (∀ m ∈ ms, allowedDuringRun s.cfg m) ∧
    ms.filter (fun m => !m.fromHost) = runMoves 5 .ioError :=
  ⟨witness_invariant_configured [], rfl, rfl, by decide, by decide, (busyHost_allowed _ _).1, (busyHost_allowed _ _).2⟩

/-- The last AllOff of a run: the Core issues it. -/
def lastOff : State := { running 1 .allOff .issue none with repCount := 1#32 }
/-- What that move leaves. -/
def lastOffSent : State := coreStep lastOff
/-- What the Transport's OK leaves. -/
def lastOffDone : State := offSent (lastOffSent.answer .ok)

theorem invariant_lastOff : Invariant lastOff where
  cfgLegal := rfl
  control := .running rfl rfl rfl (.offIssue rfl rfl rfl) (by decide)
  outLenMultiple := rfl
  outLenBound := by decide
  posBound := by decide
  closes := rfl
  answered := by intro e he; cases he
  memWf := List.Pairwise.nil
  memStored := by intro x hx; cases hx
  outWritten := by intro n hn; cases hn

/-- Both premises are used: the Core's move, the Transport's answer, and the Core idling ever after. -/
theorem witness_EveryCommandEndsIfPortsLive : ∃ (ms : Nat → Move) (ss : Nat → State),
    Invariant (ss 0) ∧ (∀ n, moveStep (ms n) (ss n) = .next (ss (n + 1))) ∧ PortsLive ms ss ∧ CoreLive ms ss ∧
    (ss 0).busy = true ∧ (ss 1).busy = true := by
  refine ⟨fun n => match n with | 1 => .transport .ok | _ => .core,
    fun n => match n with | 0 => lastOff | 1 => lastOffSent | _ => lastOffDone,
    invariant_lastOff, ?_, ?_, ?_, rfl, rfl⟩
  · intro n
    match n with
    | 0 => rfl
    | 1 => rfl
    | n + 2 => rfl
  · intro n hb hq
    match n with
    | 0 => exact absurd rfl hq
    | 1 => exact ⟨1, Nat.le_refl 1, (by decide), _, rfl, by intro d h; cases h⟩
    | n + 2 => cases hb
  · intro n hb hq
    match n with
    | 0 => exact ⟨0, Nat.le_refl 0, rfl, rfl, rfl⟩
    | 1 => cases hq
    | n + 2 => cases hb

theorem witness_UnservedCommandHangs :
    let s := withMoves (opening 2) [.timer]
    ∃ t, Invariant s ∧ s.busy = true ∧ step s = .next t ∧
      ∀ m rest, s.schedule = m :: rest → m ≠ .reset ∧ ¬ serves m s := by
  refine ⟨_, witness_invariant_opening _, rfl, rfl, ?_⟩
  intro m rest h
  obtain ⟨rfl, rfl⟩ := List.cons.inj h
  refine ⟨by decide, ?_⟩
  rintro ⟨d, hd⟩
  cases hd

end Sys2Proof.Tests
end

section
/-! Construction: which configurations are legal, and what construction answers for each (10_state.md R20). -/

namespace Sys2Proof

/-- R20's bounds on LED_COUNT, and the model's demand that the pulse patterns differ (log entry 13). -/
theorem Cfg.wf_iff (c : Cfg) :
    c.wf = true ↔ 1 ≤ c.ledCount ∧ c.ledCount ≤ 65535 ∧ c.pulseHigh ≠ c.pulseLow := by
  simp [Cfg.wf, and_assoc]

end Sys2Proof

namespace Sys2Proof.Machine

theorem construct_of_wf {c : Cfg} (h : c.wf = true) : State.construct c = .next (State.resetWith c) := if_pos h

theorem construct_of_not_wf {c : Cfg} (h : ¬ c.wf = true) :
    State.construct c = .refused .illegalConfiguration := if_neg h

/-- Settles O40: each clause says which conjunct of `Cfg.wf_iff` fails, or that all three hold. -/
theorem constructionChecksTheConfiguration : Obligations.ConstructionChecksTheConfiguration := by
  intro c
  refine ⟨fun hcount => construct_of_not_wf fun hwf => ?_, fun hpulse => construct_of_not_wf fun hwf => ?_,
    fun hmin hmax hpulse => construct_of_wf (c.wf_iff.mpr ⟨hmin, hmax, hpulse⟩)⟩
  · obtain ⟨hmin, hmax, -⟩ := c.wf_iff.mp hwf
    omega
  · obtain ⟨-, -, hne⟩ := c.wf_iff.mp hwf
    exact hne hpulse

end Sys2Proof.Machine
end

section
/-! What a move does, said once: the inversion of `exec`, of a port's answer and of `moveStep`. Every frame fact and
every invariant below is a case analysis on these three relations. -/

namespace Sys2Proof.Machine

/-- What command `i` does in the step that accepts it. -/
inductive ExecEffect (s : State) : Instr → State → Prop where
  /-- The command is over at once, or rejected: only ERR is written (10_state.md R28, 60_exceptions.md R179). -/
  | errOnly (i : Instr) (c : ErrCode) : ExecEffect s i (s.setErr c)
  /-- OUT holds a buffer of `k` encoded colors (40_bit_encoder.md R111, R112; 41_animator.md R122). -/
  | made (i : Instr) (buf : List Byte) (k : Nat) (hi : i = .encode ∨ i = .genOff ∨ i = .genFill)
      (hk : k ≤ s.cfg.ledCount) (hbuf : buf.length = 24 * k) : ExecEffect s i (s.produce buf)
  | opening (hl : s.lc = .unopened) :
      ExecEffect s .openTransport ((s.accept .openTransport).request (.openT s.cfg.bus s.cfg.device))
  | configuring (hl : s.lc = .opened) :
      ExecEffect s .configure ((s.accept .configure).request (.configureT s.cfg.clockHz s.cfg.spiMode))
  | transmitting (hl : s.lc = .configured) : ExecEffect s .transmit ((s.accept .transmit).transfer s.outBytes)
  | closing (hl : s.lc = .opened ∨ s.lc = .configured) :
      ExecEffect s .shutdown ((s.accept .shutdown).request .closeT)
  /-- SHUTDOWN where no transport is held (42_transport_lifecycle.md R156). -/
  | released (hl : s.lc = .unopened ∨ s.lc = .startupFailed) :
      ExecEffect s .shutdown ({ s with lc := .released }.setErr .ok)
  /-- RUN with REPS = 0 (41_animator.md R124). -/
  | ranNothing (hl : s.lc = .configured) (hr : s.reps = 0#32) :
      ExecEffect s .run
        ({ s with runDelay := s.delay, runReps := s.reps, pos := 0, repCount := 0, anim := .done }.setErr .ok)
  /-- RUN with work to do (R123). -/
  | running (hl : s.lc = .configured) (hr : s.reps ≠ 0#32) :
      ExecEffect s .run
        { s with runDelay := s.delay, runReps := s.reps, pos := 0, repCount := 0, busy := true, curOp := some .run,
                 anim := .filling, ph := .issue }

@[simp] theorem frame_length (s : State) (k : Nat) : (s.frame k).length = k := by simp [State.frame]

theorem exec_effect {i : Instr} {s t : State} (h : exec i s = .next t) : ExecEffect s i t := by
  cases i <;> simp only [exec] at h
  case nop =>
    cases h
    exact .errOnly _ _
  case openTransport =>
    unfold execOpen at h
    split at h
    · next hl =>
      cases h
      exact .opening hl
    · cases h
      exact .errOnly _ _
  case configure =>
    unfold execConfigure at h
    split at h
    · next hl =>
      cases h
      exact .configuring hl
    · cases h
      exact .errOnly _ _
  case encode =>
    unfold execEncode at h
    split at h
    · cases h
      exact .errOnly _ _
    · next hk =>
      cases h
      exact .made _ _ s.frameLen.toNat (.inl rfl) (by omega) (by simp)
  case genOff =>
    cases h
    exact .made _ _ s.cfg.ledCount (.inr (.inl rfl)) le_rfl (by simp)
  case genFill =>
    unfold execGenFill at h
    split at h
    · next hk =>
      cases h
      exact .made _ _ (s.fillIndex.toNat + 1) (.inr (.inr rfl)) hk (by simp)
    · cases h
      exact .errOnly _ _
  case transmit =>
    unfold execTransmit at h
    split at h
    · next hl =>
      cases h
      exact .transmitting hl
    · cases h
      exact .errOnly _ _
  case run =>
    unfold execRun at h
    split at h
    · next hl =>
      dsimp only at h
      split at h
      · next hr =>
        cases h
        exact .ranNothing hl hr
      · next hr =>
        cases h
        exact .running hl hr
    · cases h
      exact .errOnly _ _
  case shutdown =>
    unfold execShutdown at h
    split at h
    · next hl =>
      cases h
      exact .closing (.inl hl)
    · next hl =>
      cases h
      exact .closing (.inr hl)
    · next hl =>
      cases h
      exact .released (.inl hl)
    · next hl =>
      cases h
      exact .released (.inr hl)
    · cases h
      exact .errOnly _ _

/-- What the command in progress does when the Transport has answered `r`; `s` already holds the response in HIST. -/
inductive AnswerEffect (s : State) (r : Response) : State → Prop where
  | opened (hc : s.curOp = some .openTransport) (hr : r = .ok) :
      AnswerEffect s r ({ s with lc := .opened }.complete .ok)
  | openFailed (hc : s.curOp = some .openTransport) (hr : r ≠ .ok) :
      AnswerEffect s r ({ s with lc := .startupFailed }.complete .transportUnavailable)
  | configured (hc : s.curOp = some .configure) : AnswerEffect s r ({ s with lc := .configured }.complete .ok)
  | transmitted (hc : s.curOp = some .transmit) (hr : r = .ok) : AnswerEffect s r (s.complete .ok)
  | transmitFailed (hc : s.curOp = some .transmit) (hr : r ≠ .ok) : AnswerEffect s r (s.complete .transportIoError)
  | closed (hc : s.curOp = some .shutdown) : AnswerEffect s r ({ s with lc := .released }.complete .ok)
  | fillSent (hc : s.curOp = some .run) (ha : s.anim = .filling) (hp : s.ph = .xferWait) (hr : r = .ok) :
      AnswerEffect s r { s.request (.wait s.runDelay) with ph := .delayWait }
  | offPaused (hc : s.curOp = some .run) (ha : s.anim = .allOff) (hp : s.ph = .xferWait) (hr : r = .ok)
      (hn : (Word.succ s.repCount).toNat < s.runReps.toNat) :
      AnswerEffect s r { s.request (.wait s.cfg.pauseDelay) with
        repCount := Word.succ s.repCount, anim := .paused, ph := .pauseWait }
  | runDone (hc : s.curOp = some .run) (ha : s.anim = .allOff) (hp : s.ph = .xferWait) (hr : r = .ok)
      (hn : s.runReps.toNat ≤ (Word.succ s.repCount).toNat) :
      AnswerEffect s r ({ s with repCount := Word.succ s.repCount, anim := .done }.complete .ok)
  | runFailed (hc : s.curOp = some .run) (ha : s.anim = .filling ∨ s.anim = .allOff) (hp : s.ph = .xferWait)
      (hr : r ≠ .ok) : AnswerEffect s r ({ s with anim := .aborted }.complete .transportIoError)

/-- A run's transfer was answered. -/
theorem runAnswered_effect {r : Response} {s t : State} (hc : s.curOp = some .run) (h : runAnswered r s = some t) :
    AnswerEffect s r t := by
  by_cases hr : r = .ok
  · obtain ⟨ha, hp, rfl⟩ | ⟨ha, hp, rfl⟩ := runAnswered_cases h <;> rw [if_pos hr]
    · exact .fillSent hc ha hp hr
    · unfold offSent
      dsimp only
      split
      · next hn => exact .offPaused hc ha hp hr hn
      · next hn => exact .runDone hc ha hp hr (Nat.le_of_not_lt hn)
  · obtain ⟨ha, hp, rfl⟩ | ⟨ha, hp, rfl⟩ := runAnswered_cases h <;> rw [if_neg hr, takeError_ioError_run s hc]
    · exact .runFailed hc (.inl ha) hp hr
    · exact .runFailed hc (.inr ha) hp hr

theorem continuation_effect {q : PortRequest} {r : Response} {s t : State} (h : continuation q r s = some t) :
    AnswerEffect s r t := by
  obtain ⟨hc, rfl⟩ | ⟨hc, rfl⟩ | ⟨hc, rfl⟩ | ⟨hc, rfl⟩ | ⟨hc, h⟩ := continuation_cases h
  · unfold openAnswered
    split
    · next hr => exact .opened hc hr
    · next hr => exact .openFailed hc hr
  · exact .configured hc
  · unfold transmitAnswered
    split
    · next hr => exact .transmitted hc hr
    · next hr =>
      rw [takeError_ioError_other s (by simp [hc])]
      exact .transmitFailed hc hr
  · exact .closed hc
  · exact runAnswered_effect hc h

/-- What a run does when the Timer has completed its wait; `s` already holds the response in HIST. -/
inductive WaitEffect (s : State) : State → Prop where
  | nextFill (ha : s.anim = .filling) (hp : s.ph = .delayWait) (hn : s.pos.toNat + 1 < s.cfg.ledCount) :
      WaitEffect s { s with pos := Word.succ s.pos, ph := .issue }
  | lastFill (ha : s.anim = .filling) (hp : s.ph = .delayWait) (hn : s.cfg.ledCount ≤ s.pos.toNat + 1) :
      WaitEffect s { s with anim := .allOff, ph := .issue }
  | again (ha : s.anim = .paused) (hp : s.ph = .pauseWait) :
      WaitEffect s { s with pos := 0, anim := .filling, ph := .issue }

theorem runWaited_effect {s t : State} (h : runWaited s = some t) : WaitEffect s t := by
  obtain ⟨ha, hp, rfl⟩ | ⟨ha, hp, rfl⟩ := runWaited_cases h
  · unfold delayDone
    split
    · next hn => exact .nextFill ha hp hn
    · next hn => exact .lastFill ha hp (Nat.le_of_not_lt hn)
  · exact .again ha hp

/-- What a move that answers next does. -/
inductive MoveEffect (s : State) : Move → State → Prop where
  /-- A write to something read-only, or a move of an agent with nothing to do. -/
  | nothing (m : Move) (hm : m ≠ .reset) : MoveEffect s m s
  | noted (a : Offset) (v : Word) : MoveEffect s (.host (.read a .w32)) (s.noteRead a v)
  /-- A write to a register other than CTRL reaches the argument registers only (20_memory.md R54). -/
  | argument (a : Offset) (v d r f i : Word) :
      MoveEffect s (.host (.write a .w32 v)) { s with delay := d, reps := r, frameLen := f, fillIndex := i }
  | color (a : Offset) (v : Word) (j : Nat) (hp : placeAt s.cfg a.toNat = .color j) :
      MoveEffect s (.host (.write a .w32 v)) (s.writeColor j (colorOfWord v))
  | illegal (v : Word) (hb : s.busy = false) :
      MoveEffect s (.host (.write 0#22 .w32 v)) (s.setErr .illegalCommand)
  | command (v : Word) (i : Instr) (t : State) (hb : s.busy = false) (hd : decode v = .ok i) (he : ExecEffect s i t) :
      MoveEffect s (.host (.write 0#22 .w32 v)) t
  | fillIssued (hc : s.curOp = some .run) (hp : s.ph = .issue) (ha : s.anim = .filling) :
      MoveEffect s .core (s.issueFrame (encodeSeq s.cfg (fillFrame s.cfg s.pos.toNat)))
  | offIssued (hc : s.curOp = some .run) (hp : s.ph = .issue) (ha : s.anim = .allOff) :
      MoveEffect s .core (s.issueFrame (offBuffer s.cfg))
  | answered (r : Response) (q : PortRequest) (t : State) (hq : s.pending = some q) (hw : ∀ d, q ≠ .wait d)
      (ht : AnswerEffect (s.answer r) r t) : MoveEffect s (.transport r) t
  | waited (d : Word) (t : State) (hq : s.pending = some (.wait d)) (hc : s.curOp = some .run)
      (ht : WaitEffect (s.answer .done) t) : MoveEffect s .timer t
  | reset : MoveEffect s .reset s.resetAgain

theorem writeReg_argument (v : Word) (s : State) (r : Reg) :
    ∃ d n f i, s.writeReg v r = { s with delay := d, reps := n, frameLen := f, fillIndex := i } := by
  cases r <;> exact ⟨_, _, _, _, rfl⟩

theorem regAt_eq_ctrl {n : Nat} (h : regAt n = some .ctrl) : n = 0 := by
  unfold regAt at h
  split at h <;> simp_all

/-- CTRL stands at offset 0 only (10_state.md R44). -/
theorem placeAt_eq_ctrl {c : Cfg} {a : Offset} (h : placeAt c a.toNat = .reg .ctrl) : a = 0#22 := by
  unfold placeAt at h
  split at h
  · next r hr =>
    cases h
    exact BitVec.eq_of_toNat_eq (regAt_eq_ctrl hr)
  · split at h
    · cases h
    · split at h <;> cases h

theorem hostStep_effect {x : HostAccess} {s t : State} (h : hostStep x s = .next t) : MoveEffect s (.host x) t := by
  obtain ⟨a, v, rfl, -, rfl⟩ | ⟨a, v, rfl, hp, hx⟩ | ⟨a, v, r, rfl, -, -, rfl⟩ | ⟨a, v, j, rfl, hp, rfl⟩ |
    ⟨a, v, m, rfl, -, rfl⟩ := hostStep_cases h
  · exact .noted a v
  · obtain rfl := placeAt_eq_ctrl hp
    obtain ⟨hb, ⟨e, -, rfl⟩ | ⟨i, hd, he⟩⟩ := command_cases hx
    · exact .illegal v hb
    · exact .command v i t hb hd (exec_effect he)
  · obtain ⟨d, n, f, i, e⟩ := writeReg_argument v s r
    rw [e]
    exact .argument a v d n f i
  · exact .color a v j hp
  · exact .nothing _ (by simp)

theorem moveStep_effect {m : Move} {s t : State} (h : moveStep m s = .next t) : MoveEffect s m t := by
  cases m with
  | host x => exact hostStep_effect h
  | core =>
    cases h
    obtain ⟨hc, hp, ha, e⟩ | ⟨hc, hp, ha, e⟩ | ⟨e, -⟩ := coreStep_cases s <;> rw [e]
    · exact .fillIssued hc hp ha
    · exact .offIssued hc hp ha
    · exact .nothing _ (by simp)
  | transport r =>
    obtain ⟨rfl, -⟩ | ⟨q, hq, hw, -, hk⟩ := transportStep_cases h
    · exact .nothing _ (by simp)
    · exact .answered r q t hq hw (continuation_effect hk)
  | timer =>
    obtain ⟨rfl, -⟩ | ⟨d, hq, hc, hk⟩ := timerStep_cases h
    · exact .nothing _ (by simp)
    · exact .waited d t hq hc (runWaited_effect hk)
  | reset =>
    cases h
    exact .reset

/-- A step that answers next: no move was to come, or the first one was made. -/
theorem step_effect {s t : State} (h : step s = .next t) :
    (s.schedule = [] ∧ t = s) ∨
      ∃ m rest, s.schedule = m :: rest ∧ MoveEffect { s with schedule := rest } m t := by
  obtain h | ⟨m, rest, hs, hm⟩ := step_cases h
  · exact .inl h
  · exact .inr ⟨m, rest, hs, moveStep_effect hm⟩

end Sys2Proof.Machine
end

section
/-! The invariant's parts (10_state.md R38, R39, R45): which fields each one reads, and what the operations of a step do
to it. -/

namespace Sys2Proof.Machine

/-! Control: BUSY, CUR_OP, PENDING, PH, AS and LC. -/

/-- Control reads none of the fields taken from `t` here. -/
theorem Control.congr {s t : State} (h : Control s)
    (ht : t = { s with
      err := t.err, pos := t.pos, xferCount := t.xferCount, delay := t.delay, reps := t.reps, frameLen := t.frameLen
      fillIndex := t.fillIndex, outLen := t.outLen, mem := t.mem, hist := t.hist, colorDraw := t.colorDraw
      outDraw := t.outDraw, schedule := t.schedule, reads := t.reads }) : Control t := by
  rw [ht]
  cases h with
  | resting hb hc hq hp ha => exact .resting hb hc hq hp ha
  | opening hb hc hq hp ha hl => exact .opening hb hc hq hp ha hl
  | configuring hb hc hq hp ha hl => exact .configuring hb hc hq hp ha hl
  | transmitting hb hc bs hq hp ha hl => exact .transmitting hb hc bs hq hp ha hl
  | closing hb hc hq hp ha hl => exact .closing hb hc hq hp ha hl
  | running hb hc hl hr hn =>
    refine .running hb hc hl ?_ hn
    cases hr with
    | fillIssue ha hp hq => exact .fillIssue ha hp hq
    | fillSent ha hp bs hq => exact .fillSent ha hp bs hq
    | fillDelay ha hp hq => exact .fillDelay ha hp hq
    | offIssue ha hp hq => exact .offIssue ha hp hq
    | offSent ha hp bs hq => exact .offSent ha hp bs hq
    | pause ha hp hq => exact .pause ha hp hq

/-- R45 item 1. -/
theorem Control.idle {s : State} (h : Control s) (hb : s.busy = false) :
    s.curOp = none ∧ s.pending = none ∧ s.ph = .none ∧ s.anim.resting = true := by
  cases h with
  | resting _ hc hq hp ha => exact ⟨hc, hq, hp, ha⟩
  | opening hb' | configuring hb' | transmitting hb' | closing hb' | running hb' =>
    exact absurd (hb.symm.trans hb') (by decide)

theorem Control.busy_of_pending {s : State} (h : Control s) (hq : s.pending ≠ none) : s.busy = true := by
  cases hb : s.busy with
  | true => rfl
  | false => exact absurd (h.idle hb).2.1 hq

/-- No command is in progress once LC is RELEASED (42_transport_lifecycle.md R156). -/
theorem Control.lc_of_busy {s : State} (h : Control s) (hb : s.busy = true) : s.lc ≠ .released := by
  cases h with
  | resting hb' => exact absurd (hb'.symm.trans hb) (by decide)
  | opening _ _ _ _ _ hl | configuring _ _ _ _ _ hl | transmitting _ _ _ _ _ _ hl | running _ _ hl =>
    rw [hl]
    decide
  | closing _ _ _ _ _ hl => obtain hl | hl := hl <;> rw [hl] <;> decide

/-- AS rests and PH is NONE outside a run. -/
theorem Control.resting_of_curOp {s : State} (h : Control s) (hc : s.curOp ≠ some .run) :
    s.anim.resting = true ∧ s.ph = .none := by
  cases h with
  | resting _ _ _ hp ha | opening _ _ _ hp ha | configuring _ _ _ hp ha | transmitting _ _ _ _ hp ha
  | closing _ _ _ hp ha => exact ⟨ha, hp⟩
  | running _ hc' => exact absurd hc' hc

/-- R45 item 2, read the other way. -/
theorem Control.run {s : State} (h : Control s) (hc : s.curOp = some .run) :
    s.busy = true ∧ s.lc = .configured ∧ RunPoint s ∧ s.repCount.toNat < s.runReps.toNat := by
  cases h with
  | running hb _ hl hr hn => exact ⟨hb, hl, hr, hn⟩
  | resting _ hc' | opening _ hc' | configuring _ hc' | transmitting _ hc' | closing _ hc' =>
    exact absurd (hc.symm.trans hc') (by decide)

/-- In PH = ISSUE a run has nothing outstanding. -/
theorem RunPoint.pending_of_issue {s : State} (h : RunPoint s) (hp : s.ph = .issue) : s.pending = none := by
  cases h with
  | fillIssue _ _ hq | offIssue _ _ hq => exact hq
  | fillSent _ hp' | fillDelay _ hp' | offSent _ hp' | pause _ hp' => exact absurd (hp.symm.trans hp') (by decide)

/-! HIST: how many CLOSEs it holds, and which of its requests are answered. -/

theorem closeCount_eq_count (h : List HistEntry) : closeCount h = (h.map (·.request)).count .closeT := by
  simp [closeCount, List.count, List.countP_map, Function.comp_def]

@[simp] theorem closeCount_append_one (h : List HistEntry) (e : HistEntry) :
    closeCount (h ++ [e]) = closeCount h + if e.request = .closeT then 1 else 0 := by
  simp [closeCount, List.countP_append, List.countP_singleton]

@[simp] theorem closeCount_answerLast (r : Response) (h : List HistEntry) :
    closeCount (answerLast r h) = closeCount h := by
  rw [closeCount_eq_count, answerLast_requests, ← closeCount_eq_count]

theorem closesAllowed_iff_of_released {s : State} (hl : s.lc = .released) :
    closesAllowed s ↔ closeCount s.hist ≤ 1 := by
  simp [closesAllowed, hl]

theorem closesAllowed_iff_of_not_released {s : State} (hl : s.lc ≠ .released) :
    closesAllowed s ↔ closeCount s.hist = if s.curOp = some Instr.shutdown then 1 else 0 := by
  cases h : s.lc <;> simp_all [closesAllowed]

/-- R45 item 5. -/
theorem closeCount_le_one {s : State} (h : closesAllowed s) : closeCount s.hist ≤ 1 := by
  by_cases hl : s.lc = .released
  · exact (closesAllowed_iff_of_released hl).mp h
  · rw [(closesAllowed_iff_of_not_released hl).mp h]
    split <;> omega

/-- Once the outstanding request is answered, every request is. -/
theorem answered_answerLast {s : State} {q : PortRequest} (h : histAnswered s) (hq : s.pending = some q)
    (r : Response) : ∀ e ∈ answerLast r s.hist, e.response.isSome := by
  simp only [histAnswered, hq] at h
  obtain ⟨hs, he, hall⟩ := h
  rw [he, answerLast_append]
  intro e hmem
  obtain hmem | hmem := List.mem_append.mp hmem
  · exact hall e hmem
  · rw [List.mem_singleton.mp hmem]
    rfl

theorem histAnswered_of_pending_none {s : State} (hq : s.pending = none) :
    histAnswered s ↔ ∀ e ∈ s.hist, e.response.isSome := by
  simp only [histAnswered, hq]

theorem histAnswered_of_requested {s : State} {q : PortRequest} {h : List HistEntry} (hq : s.pending = some q)
    (hh : s.hist = h ++ [⟨q, none⟩]) (hall : ∀ e ∈ h, e.response.isSome) : histAnswered s := by
  simp only [histAnswered, hq]
  exact ⟨h, hh, hall⟩

/-! The window memory: where stored bytes lie. -/

/-- A legal strip's COLOR_RAM ends below OUTBUF (20_memory.md R51). -/
theorem colorAddr_lt_outBase {c : Cfg} (hn : c.ledCount ≤ 65535) {j k : Nat} (hj : j < c.ledCount) (hk : k < 3) :
    colorAddr j k < outBase := by
  simp only [colorAddr, colorBase, outBase]
  omega

theorem storedAt_colorAddr {s : State} {j k : Nat} (hj : j < s.cfg.ledCount) (hk : k < 3) :
    storedAt s (colorAddr j k) := by
  left
  simp only [colorAddr, colorBase]
  omega

/-- A COLOR_RAM word the window maps is one of the strip's. -/
theorem lt_ledCount_of_placeAt_color {c : Cfg} {a j : Nat} (h : placeAt c a = .color j) : j < c.ledCount := by
  unfold placeAt at h
  split at h
  · cases h
  · split at h
    · next hc =>
      obtain rfl := Place.color.inj h
      omega
    · split at h <;> cases h

end Sys2Proof.Machine
end

section
/-! Every move keeps the invariant. -/

namespace Sys2Proof.Machine

/-- The invariant reads none of the fields taken from `t` here. -/
theorem Invariant.congr {s t : State} (h : Invariant s)
    (ht : t = { s with
      err := t.err, xferCount := t.xferCount, delay := t.delay, reps := t.reps, frameLen := t.frameLen
      fillIndex := t.fillIndex, colorDraw := t.colorDraw, outDraw := t.outDraw, schedule := t.schedule
      reads := t.reads }) : Invariant t := by
  have hcontrol : Control t := h.control.congr (by rw [ht])
  rw [ht] at hcontrol ⊢
  exact ⟨h.cfgLegal, hcontrol, h.outLenMultiple, h.outLenBound, h.posBound, h.closes, h.answered, h.memWf,
    h.memStored, h.outWritten⟩

/-- A move that leaves CFG, COLOR_RAM and OUT keeps the invariant where it keeps the parts about control and HIST. -/
theorem Invariant.of_control {s t : State} (h : Invariant s)
    (ht : t = { s with
      lc := t.lc, anim := t.anim, ph := t.ph, busy := t.busy, curOp := t.curOp, pending := t.pending, err := t.err
      pos := t.pos, repCount := t.repCount, xferCount := t.xferCount, runDelay := t.runDelay, runReps := t.runReps
      hist := t.hist })
    (hcontrol : Control t) (hpos : t.pos.toNat < s.cfg.ledCount) (hcloses : closesAllowed t)
    (hanswered : histAnswered t) : Invariant t := by
  rw [ht] at hcontrol hcloses hanswered ⊢
  exact ⟨h.cfgLegal, hcontrol, h.outLenMultiple, h.outLenBound, hpos, hcloses, hanswered, h.memWf, h.memStored,
    h.outWritten⟩

theorem Invariant.ledCount_le {s : State} (h : Invariant s) : s.cfg.ledCount ≤ 65535 :=
  ((Cfg.wf_iff _).mp h.cfgLegal).2.1

theorem Invariant.ledCount_pos {s : State} (h : Invariant s) : 0 < s.cfg.ledCount :=
  ((Cfg.wf_iff _).mp h.cfgLegal).1

/-! OUT and COLOR_RAM. -/

theorem Invariant.writeOut {s : State} (h : Invariant s) {buf : List Byte} {k : Nat} (hbuf : buf.length = 24 * k)
    (hk : k ≤ s.cfg.ledCount) : Invariant (s.writeOut buf) := by
  have hlen : (s.writeOut buf).outLen.toNat = buf.length := by
    have := h.ledCount_le
    rw [writeOut_outLen, BitVec.toNat_ofNat, Nat.mod_eq_of_lt (by omega)]
  refine ⟨h.cfgLegal, h.control.congr rfl, by omega, ?_, h.posBound, h.closes, h.answered, writeOut_wf _ _ h.memWf,
    ?_, ?_⟩
  · rw [hlen, writeOut_cfg]
    omega
  · intro x hx
    obtain hx | hx := List.mem_append.mp hx
    · obtain ⟨hx, hlt⟩ := (Memory.mem_below _ _ _).mp hx
      obtain hs | ⟨hle, -⟩ := h.memStored x hx
      · exact .inl hs
      · omega
    · have := Memory.mem_cells _ _ _ hx
      rw [← hlen] at this
      exact .inr this
  · intro n hn
    rw [writeOut_get?_out, List.getElem?_eq_getElem (by omega)]
    rfl

theorem Invariant.writeColor {s : State} (h : Invariant s) {j : Nat} (hj : j < s.cfg.ledCount) (c : Color) :
    Invariant (s.writeColor j c) := by
  refine ⟨h.cfgLegal, h.control.congr rfl, h.outLenMultiple, h.outLenBound, h.posBound, h.closes, h.answered,
    writeColor_wf _ _ _ h.memWf, ?_, ?_⟩
  · intro x hx
    rw [writeColor_mem] at hx
    obtain rfl | hx := Memory.mem_set _ _ _ _ hx
    · exact storedAt_colorAddr hj (by decide)
    obtain rfl | hx := Memory.mem_set _ _ _ _ hx
    · exact storedAt_colorAddr hj (by decide)
    obtain rfl | hx := Memory.mem_set _ _ _ _ hx
    · exact storedAt_colorAddr hj (by decide)
    exact h.memStored x hx
  · intro n hn
    have hne : ∀ k, k < 3 → outAddr n ≠ colorAddr j k := by
      intro k hk
      have := colorAddr_lt_outBase h.ledCount_le hj hk
      simp only [outAddr]
      omega
    rw [writeColor_get? _ _ _ h.memWf, if_neg (hne 2 (by decide)), if_neg (hne 1 (by decide)),
      if_neg (hne 0 (by decide))]
    exact h.outWritten n hn

/-! A command is accepted, goes on, or ends. -/

/-- With BUSY = 0 every request has its answer. -/
theorem Invariant.answered_of_idle {s : State} (h : Invariant s) (hb : s.busy = false) :
    ∀ e ∈ s.hist, e.response.isSome :=
  (histAnswered_of_pending_none (h.control.idle hb).2.1).mp h.answered

/-- With BUSY = 0 and the transport not released, nothing has been closed. -/
theorem Invariant.closeCount_of_idle {s : State} (h : Invariant s) (hb : s.busy = false) (hl : s.lc ≠ .released) :
    closeCount s.hist = 0 := by
  rw [(closesAllowed_iff_of_not_released hl).mp h.closes, (h.control.idle hb).1]
  rfl

theorem Invariant.closeCount_of_run {s : State} (h : Invariant s) (hc : s.curOp = some .run) :
    closeCount s.hist = 0 := by
  have hl : s.lc ≠ .released := h.control.lc_of_busy (h.control.run hc).1
  rw [(closesAllowed_iff_of_not_released hl).mp h.closes, hc]
  rfl

/-- A command that issues the port request `q` is accepted (R28, R38). -/
theorem Invariant.accepted {s t : State} (h : Invariant s) (hb : s.busy = false) (hl : s.lc ≠ .released) {i : Instr}
    {q : PortRequest} (hi : i = .shutdown ↔ q = .closeT)
    (ht : t = { s with
      busy := true, curOp := some i, pending := some q, hist := s.hist ++ [⟨q, none⟩], xferCount := t.xferCount })
    (hcontrol : Control t) : Invariant t := by
  have hclose : closeCount (s.hist ++ [⟨q, none⟩]) = if some i = some Instr.shutdown then 1 else 0 := by
    simp [h.closeCount_of_idle hb hl, hi]
  rw [ht] at hcontrol ⊢
  exact h.of_control rfl hcontrol h.posBound (Iff.mpr (closesAllowed_iff_of_not_released hl) hclose)
    (histAnswered_of_requested rfl rfl (h.answered_of_idle hb))

/-- A command that waits on a port ends. LC becomes `l`: a CLOSE is answered by RELEASED only. -/
theorem Invariant.ended {s : State} (h : Invariant s) {q : PortRequest} (hq : s.pending = some q) (r : Response)
    {l : Lifecycle} (hl : l = .released ∨ s.curOp ≠ some .shutdown) {a : Animator} (ha : a.resting = true) (n : Word)
    (c : ErrCode) : Invariant ({ s.answer r with lc := l, anim := a, repCount := n }.complete c) := by
  refine h.of_control rfl (.resting rfl rfl rfl rfl ha) h.posBound ?_
    ((histAnswered_of_pending_none rfl).mpr (answered_answerLast h.answered hq r))
  have hlc : s.lc ≠ .released := h.control.lc_of_busy (h.control.busy_of_pending (by simp [hq]))
  by_cases hrel : l = .released
  · subst hrel
    refine (closesAllowed_iff_of_released rfl).mpr ?_
    simpa using closeCount_le_one h.closes
  · refine (closesAllowed_iff_of_not_released hrel).mpr ?_
    have hop := hl.resolve_left hrel
    simpa [hop] using (closesAllowed_iff_of_not_released hlc).mp h.closes

/-- A run goes on to another control point, with no CLOSE issued. -/
theorem Invariant.runMoved {s t : State} (h : Invariant s) (hc : s.curOp = some .run)
    (ht : t = { s with
      anim := t.anim, ph := t.ph, pending := t.pending, pos := t.pos, repCount := t.repCount
      xferCount := t.xferCount, hist := t.hist })
    (hr : RunPoint t) (hn : t.repCount.toNat < s.runReps.toNat) (hpos : t.pos.toNat < s.cfg.ledCount)
    (hclose : closeCount t.hist = closeCount s.hist) (hanswered : histAnswered t) : Invariant t := by
  obtain ⟨hb, hl, -, -⟩ := h.control.run hc
  have hlt : t.lc ≠ .released := by
    rw [ht, hl]
    decide
  have hct : t.curOp = some .run := by rw [ht, hc]
  refine h.of_control (by rw [ht]) (.running ?_ hct ?_ hr ?_) hpos ?_ hanswered
  · rw [ht, hb]
  · rw [ht, hl]
  · have : t.runReps = s.runReps := by rw [ht]
    rw [this]
    exact hn
  · rw [closesAllowed_iff_of_not_released hlt, hclose, h.closeCount_of_run hc, hct]
    rfl

/-! The invariant over the three relations of what a move does. -/

theorem ExecEffect.invariant {s t : State} {i : Instr} (he : ExecEffect s i t) (h : Invariant s)
    (hb : s.busy = false) : Invariant t := by
  obtain ⟨hc, hq, hp, ha⟩ := h.control.idle hb
  cases he with
  | errOnly _ c => exact h.congr rfl
  | made _ buf k _ hk hbuf => exact (h.writeOut hbuf hk).congr rfl
  | opening hl =>
    exact h.accepted hb (by simp [hl]) (by simp) rfl (.opening rfl rfl rfl hp ha hl)
  | configuring hl =>
    exact h.accepted hb (by simp [hl]) (by simp) rfl (.configuring rfl rfl rfl hp ha hl)
  | transmitting hl =>
    exact h.accepted hb (by simp [hl]) (by simp) rfl (.transmitting rfl rfl _ rfl hp ha hl)
  | closing hl =>
    have hlc : s.lc ≠ .released := by obtain hl | hl := hl <;> simp [hl]
    exact h.accepted hb hlc (by simp) rfl (.closing rfl rfl rfl hp ha hl)
  | released hl =>
    have hle : closeCount s.hist ≤ 1 := closeCount_le_one h.closes
    exact h.of_control rfl (.resting hb hc hq hp ha) h.posBound ((closesAllowed_iff_of_released rfl).mpr hle) h.answered
  | ranNothing hl hr =>
    exact h.of_control rfl (.resting hb hc hq hp rfl) h.ledCount_pos h.closes h.answered
  | running hl hr =>
    have hlc : s.lc ≠ .released := by simp [hl]
    have hreps : 0 < s.reps.toNat := by
      have : s.reps.toNat ≠ 0 := fun e => hr (BitVec.eq_of_toNat_eq e)
      omega
    refine h.of_control rfl (.running rfl rfl hl (.fillIssue rfl rfl hq) hreps) h.ledCount_pos ?_ h.answered
    exact Iff.mpr (closesAllowed_iff_of_not_released hlc) (h.closeCount_of_idle hb hlc)

theorem AnswerEffect.invariant {s t : State} {r : Response} {q : PortRequest} (ht : AnswerEffect (s.answer r) r t)
    (h : Invariant s) (hq : s.pending = some q) : Invariant t := by
  have hrest : s.curOp ≠ some .run → s.anim.resting = true := fun hc => (h.control.resting_of_curOp hc).1
  have hall : ∀ e ∈ answerLast r s.hist, e.response.isSome := answered_answerLast h.answered hq r
  cases ht with
  | opened hc | openFailed hc | configured hc | transmitted hc | transmitFailed hc =>
    have hc : s.curOp = _ := hc
    exact h.ended hq r (.inr (by simp [hc])) (hrest (by simp [hc])) _ _
  | closed hc =>
    have hc : s.curOp = _ := hc
    exact h.ended hq r (.inl rfl) (hrest (by simp [hc])) _ _
  | runDone hc | runFailed hc =>
    have hc : s.curOp = _ := hc
    exact h.ended hq r (.inr (by simp [hc])) rfl _ _
  | fillSent hc ha hp hr =>
    exact h.runMoved hc rfl (.fillDelay ha rfl rfl) (h.control.run hc).2.2.2 h.posBound (by simp)
      (histAnswered_of_requested rfl rfl hall)
  | offPaused hc ha hp hr hn =>
    exact h.runMoved hc rfl (.pause rfl rfl rfl) hn h.posBound (by simp) (histAnswered_of_requested rfl rfl hall)

theorem WaitEffect.invariant {s t : State} {q : PortRequest} (ht : WaitEffect (s.answer .done) t) (h : Invariant s)
    (hq : s.pending = some q) (hc : s.curOp = some .run) : Invariant t := by
  have hall : ∀ e ∈ answerLast .done s.hist, e.response.isSome := answered_answerLast h.answered hq .done
  have hn := (h.control.run hc).2.2.2
  cases ht with
  | nextFill ha hp hlt =>
    have hpos : (Word.succ s.pos).toNat < s.cfg.ledCount := by
      have := h.ledCount_le
      change s.pos.toNat + 1 < s.cfg.ledCount at hlt
      rw [Word.succ, BitVec.toNat_add_of_lt] <;> simp <;> omega
    exact h.runMoved hc rfl (.fillIssue ha rfl rfl) hn hpos (by simp) ((histAnswered_of_pending_none rfl).mpr hall)
  | lastFill ha hp hle =>
    exact h.runMoved hc rfl (.offIssue rfl rfl rfl) hn h.posBound (by simp)
      ((histAnswered_of_pending_none rfl).mpr hall)
  | again ha hp =>
    exact h.runMoved hc rfl (.fillIssue rfl rfl rfl) hn h.ledCount_pos (by simp)
      ((histAnswered_of_pending_none rfl).mpr hall)

/-- A buffer of a run is placed in OUT and transferred (41_animator.md R125, R129). -/
theorem Invariant.issueFrame {s : State} (h : Invariant s) (hc : s.curOp = some .run) (hp : s.ph = .issue)
    (ha : s.anim = .filling ∨ s.anim = .allOff) {buf : List Byte} {k : Nat} (hbuf : buf.length = 24 * k)
    (hk : k ≤ s.cfg.ledCount) : Invariant (s.issueFrame buf) := by
  obtain ⟨-, -, hr, hn⟩ := h.control.run hc
  have hall : ∀ e ∈ s.hist, e.response.isSome :=
    (histAnswered_of_pending_none (hr.pending_of_issue hp)).mp h.answered
  have hpoint : RunPoint (s.issueFrame buf) := by
    obtain ha | ha := ha
    · exact .fillSent ha rfl buf rfl
    · exact .offSent ha rfl buf rfl
  exact (h.writeOut hbuf hk).runMoved hc rfl hpoint hn h.posBound (by simp [State.issueFrame])
    (histAnswered_of_requested rfl rfl hall)

theorem invariant_resetWith {c : Cfg} (hc : c.wf = true) : Invariant (State.resetWith c) where
  cfgLegal := hc
  control := .resting rfl rfl rfl rfl rfl
  outLenMultiple := rfl
  outLenBound := Nat.zero_le _
  posBound := ((Cfg.wf_iff c).mp hc).1
  closes := rfl
  answered := by simp [histAnswered, State.resetWith]
  memWf := resetWith_mem_wf c
  memStored := by simp [State.resetWith]
  outWritten := by simp [State.resetWith]

theorem MoveEffect.invariant {s t : State} {m : Move} (hm : MoveEffect s m t) (h : Invariant s) : Invariant t := by
  cases hm with
  | nothing => exact h
  | noted | argument | illegal => exact h.congr rfl
  | color a v j hp => exact h.writeColor (lt_ledCount_of_placeAt_color hp) _
  | command v i t hb hd he => exact he.invariant h hb
  | fillIssued hc hp ha => exact h.issueFrame hc hp (.inl ha) (by simp) h.posBound
  | offIssued hc hp ha => exact h.issueFrame hc hp (.inr ha) (by simp) le_rfl
  | answered r q t hq hw ht => exact ht.invariant h hq
  | waited d t hq hc ht => exact ht.invariant h hq hc
  | reset => exact (invariant_resetWith h.cfgLegal).congr rfl

/-- Settles O36: a step makes no move or one move, and each effect of a move keeps the invariant. -/
theorem everyStepKeepsTheInvariant : Obligations.EveryStepKeepsTheInvariant := by
  intro s t h hstep
  obtain ⟨-, rfl⟩ | ⟨m, rest, -, hm⟩ := step_effect hstep
  · exact h
  · exact hm.invariant (h.congr rfl)

end Sys2Proof.Machine
end

section
/-! The register window (10_state.md R44; 20_memory.md R51, R54, R56): what each offset names, and the step of an
aligned 32-bit access. -/

namespace Sys2Proof.Machine

/-! Where an offset lies. -/

theorem regAt_eq_none {n : Nat} (h : 0x30 ≤ n) : regAt n = none := by
  unfold regAt
  split <;> simp_all

theorem placeAt_color {c : Cfg} {j : Nat} (hj : j < c.ledCount) : placeAt c (0x040000 + 4 * j) = .color j := by
  have hin : colorBase ≤ 0x040000 + 4 * j ∧ 0x040000 + 4 * j < colorBase + 4 * c.ledCount := by
    simp only [colorBase]
    omega
  have hword : (0x040000 + 4 * j - colorBase) / 4 = j := by
    simp only [colorBase]
    omega
  simp only [placeAt, regAt_eq_none (show 0x30 ≤ 0x040000 + 4 * j by omega), if_pos hin, hword]

theorem placeAt_outbuf {c : Cfg} (hn : c.ledCount ≤ 65535) {m : Nat} (hm : 4 * m < 24 * c.ledCount) :
    placeAt c (0x200000 + 4 * m) = .outbuf m := by
  have hcolor : ¬ (colorBase ≤ 0x200000 + 4 * m ∧ 0x200000 + 4 * m < colorBase + 4 * c.ledCount) := by
    simp only [colorBase]
    omega
  have hin : outBase ≤ 0x200000 + 4 * m ∧ 0x200000 + 4 * m < outBase + 24 * c.ledCount := by
    simp only [outBase]
    omega
  have hword : (0x200000 + 4 * m - outBase) / 4 = m := by
    simp only [outBase]
    omega
  simp only [placeAt, regAt_eq_none (show 0x30 ≤ 0x200000 + 4 * m by omega), if_neg hcolor, if_pos hin, hword]

/-! The step. -/

theorem accessForm_aligned {a : Offset} (ha : a.toNat % 4 = 0) : accessForm a .w32 = none := by
  simp [accessForm, ha]

theorem step_of_read {s : State} {a : Offset} {rest : List Move} (hs : s.schedule = .host (.read a .w32) :: rest)
    (ha : a.toNat % 4 = 0) {p : Place} (hp : placeAt s.cfg a.toNat = p) {v : Word} (hv : s.readPlace p = some v) :
    step s = .next { s with reads := s.reads ++ [(a, v)], schedule := rest } := by
  have hv' : State.readPlace { s with schedule := rest } p = some v := by cases p <;> exact hv
  simp only [step, scheduledStep, hs, moveStep, hostStep, accessForm_aligned ha, hp, hv']
  rfl

theorem step_of_write {s : State} {a : Offset} {v : Word} {rest : List Move}
    (hs : s.schedule = .host (.write a .w32 v) :: rest) (ha : a.toNat % 4 = 0) {p : Place}
    (hp : placeAt s.cfg a.toNat = p) : step s = writePlace v { s with schedule := rest } p := by
  simp only [step, scheduledStep, hs, moveStep, hostStep, accessForm_aligned ha, hp]

/-- Settles O29: the place each offset names, and what reading that place gives. -/
theorem readsReturnTheRegisterMap : Obligations.ReadsReturnTheRegisterMap := by
  intro s a rest hs
  refine ⟨?_, ?_, ?_, ?_, ?_, ?_, ?_, ?_, ?_, ?_, ?_, ?_, ?color, ?outbuf⟩
  case color =>
    intro j hj hn ha
    exact step_of_read hs (by omega) ((congrArg _ ha).trans (placeAt_color hj)) rfl
  case outbuf =>
    intro m hm hn ha
    exact step_of_read hs (by omega) ((congrArg _ ha).trans (placeAt_outbuf hn hm)) rfl
  all_goals
    rintro rfl
    exact step_of_read hs rfl rfl rfl

/-- Settles O31: the place each offset names, and what writing that place does. -/
theorem writesFollowTheAccessRights : Obligations.WritesFollowTheAccessRights := by
  intro s a v rest hs
  refine ⟨?_, ?_, ?_, ?_, ?readOnly, ?outbuf⟩
  case readOnly =>
    intro ha
    simp only [List.mem_cons, List.not_mem_nil, or_false] at ha
    obtain rfl | rfl | rfl | rfl | rfl | rfl | rfl := ha <;> exact step_of_write hs rfl rfl
  case outbuf =>
    intro m hm hn ha
    exact step_of_write hs (by omega) ((congrArg _ ha).trans (placeAt_outbuf hn hm))
  all_goals
    rintro rfl
    exact step_of_write hs rfl rfl

/-! Colors. -/

/-- Bits [31:24] of a color word are dropped (30_encoding.md R75). -/
theorem wordOfColor_colorOfWord (v : Word) : wordOfColor (colorOfWord v) = v &&& 0x00FFFFFF#32 := by
  have hmask : 0x00FFFFFF#32 = 0#8 ++ BitVec.allOnes 24 := rfl
  rw [hmask]
  refine BitVec.eq_of_getLsbD_eq fun i hi => ?_
  simp only [wordOfColor, colorOfWord, BitVec.getLsbD_and, BitVec.getLsbD_append, BitVec.getLsbD_extractLsb',
    BitVec.getLsbD_allOnes, BitVec.getLsbD_zero]
  obtain hb | hg | hr | hz : i < 8 ∨ (8 ≤ i ∧ i < 16) ∨ (16 ≤ i ∧ i < 24) ∨ 24 ≤ i := by omega
  · simp [hb, show i < 24 by omega]
  · simp [show ¬ i < 8 by omega, show i - 8 < 8 by omega, show i < 24 by omega, show 8 + (i - 8) = i by omega]
  · simp [show ¬ i < 8 by omega, show ¬ i - 8 < 8 by omega, show i - 8 - 8 < 8 by omega, show i < 24 by omega,
      show 16 + (i - 8 - 8) = i by omega]
  · simp [show ¬ i < 8 by omega, show ¬ i - 8 < 8 by omega, show ¬ i - 8 - 8 < 8 by omega, show ¬ i < 24 by omega]

theorem writeColor_colorAt (j : Nat) (c : Color) (s : State) (h : Memory.wf s.mem) :
    (s.writeColor j c).colorAt j = c := by
  have h01 : colorAddr j 0 ≠ colorAddr j 1 := by simp [colorAddr]
  have h02 : colorAddr j 0 ≠ colorAddr j 2 := by simp [colorAddr]
  have h12 : colorAddr j 1 ≠ colorAddr j 2 := by simp [colorAddr]
  simp only [State.colorAt, writeColor_byteAt j c s h, if_neg h01, if_neg h02, if_neg h12, if_true]

theorem writeColor_byteAt_of_ne {j : Nat} (c : Color) {s : State} (h : Memory.wf s.mem) {a : Nat}
    (h0 : a ≠ colorAddr j 0) (h1 : a ≠ colorAddr j 1) (h2 : a ≠ colorAddr j 2) :
    (s.writeColor j c).byteAt a = s.byteAt a := by
  rw [writeColor_byteAt j c s h, if_neg h2, if_neg h1, if_neg h0]

/-- Settles O32: the step is `writeColor`, whose laws are the clauses. -/
theorem colorWriteStoresOneEntry : Obligations.ColorWriteStoresOneEntry := by
  intro s a v j rest hs hmem hn hj ha
  have hstep : step s = .next (State.writeColor j (colorOfWord v) { s with schedule := rest }) :=
    step_of_write hs (by omega) ((congrArg _ ha).trans (placeAt_color hj))
  have hcolor := writeColor_colorAt j (colorOfWord v) { s with schedule := rest } hmem
  refine ⟨_, hstep, hcolor, ?_, fun x h0 h1 h2 => writeColor_byteAt_of_ne _ hmem h0 h1 h2,
    writeColor_wf _ _ _ hmem, rfl⟩
  rw [State.readPlace, hcolor, wordOfColor_colorOfWord]

/-! The status registers. -/

/-- The fields of a word laid out as STATUS is (10_state.md R41). -/
theorem statusLayout_fields (l a : BitVec 3) (b : BitVec 1) (w : BitVec (23 + 1 + 1 + 3 + 1 + 3))
    (hw : w = 0#23 ++ b ++ 0#1 ++ a ++ 0#1 ++ l) :
    w.extractLsb' 0 3 = l ∧ w.extractLsb' 3 1 = 0#1 ∧ w.extractLsb' 4 3 = a ∧ w.extractLsb' 7 1 = 0#1 ∧
      w.extractLsb' 8 1 = b ∧ w.extractLsb' 9 23 = 0#23 := by
  subst hw
  simp (disch := omega) only [BitVec.extractLsb'_append_eq_of_add_le, BitVec.extractLsb'_append_eq_of_le,
    BitVec.extractLsb'_eq_self, Nat.reduceSub, and_self]

theorem extractLsb'_setWidth_low (n w : Nat) (x : BitVec n) (h : n ≤ w) : (x.setWidth w).extractLsb' 0 n = x := by
  rw [BitVec.extractLsb'_setWidth_of_le (by omega), BitVec.extractLsb'_eq_self]

theorem extractLsb'_setWidth_high (n w k : Nat) (x : BitVec n) : (x.setWidth w).extractLsb' n k = 0#k := by
  refine BitVec.eq_of_getLsbD_eq fun i hi => ?_
  simp

theorem ledCountWord_toNat {s : State} (h : s.cfg.wf = true) : s.ledCountWord.toNat = s.cfg.ledCount := by
  have := ((Cfg.wf_iff _).mp h).2.1
  simp only [State.ledCountWord, BitVec.toNat_setWidth, BitVec.toNat_ofNat]
  omega

/-- Settles O30: the codes by evaluation, the fields by the layout of each word. -/
theorem statusRegistersHaveTheirFields : Obligations.StatusRegistersHaveTheirFields := by
  refine ⟨⟨rfl, rfl, rfl, rfl, rfl⟩, ⟨rfl, rfl, rfl, rfl, rfl, rfl⟩, ⟨rfl, rfl, rfl, rfl, rfl, rfl⟩, fun s => ?_⟩
  obtain ⟨hlc, h3, hanim, h7, hbusy, h9⟩ :=
    statusLayout_fields s.lc.code s.anim.code (BitVec.ofBool s.busy) s.statusWord rfl
  exact ⟨hlc, h3, hanim, h7, hbusy, h9, extractLsb'_setWidth_low 8 32 _ (by decide),
    extractLsb'_setWidth_high 8 32 24 _, extractLsb'_setWidth_high 16 32 16 _, ledCountWord_toNat⟩

end Sys2Proof.Machine
end

section
/-! The reachable states, and SHUTDOWN's one CLOSE (10_state.md R45; 42_transport_lifecycle.md R156). -/

namespace Sys2Proof.Machine

theorem cfg_wf : Config.cfg.wf = true := by
  refine (Cfg.wf_iff _).mpr ⟨Nat.le_add_left _ _, Config.ledCountPred.isLt, fun h => ?_⟩
  have hgap : BitVec.ofNat 8 (Config.pulseGap.val + 1) = 0#8 := by simpa [Config.cfg] using h
  have hnat := congrArg BitVec.toNat hgap
  have := Config.pulseGap.isLt
  simp only [BitVec.toNat_ofNat] at hnat
  omega

/-- Settles O35: every legal configuration's reset state meets the invariant, and `Config.cfg` is legal. -/
theorem resetMeetsTheInvariant : Obligations.ResetMeetsTheInvariant := invariant_resetWith cfg_wf

theorem Reachable.invariant {s : State} (h : Reachable s) : Invariant s := by
  induction h with
  | constructed c s h =>
    by_cases hc : c.wf = true
    · rw [construct_of_wf hc] at h
      cases h
      exact invariant_resetWith hc
    · rw [construct_of_not_wf hc] at h
      cases h
  | moved m s t _ h ih => exact (moveStep_effect h).invariant ih
  | scheduled ms s _ ih => exact ih.congr rfl

theorem Animator.resting_iff (a : Animator) : a.resting = true ↔ a = .idle ∨ a = .done ∨ a = .aborted := by
  cases a <;> simp [Animator.resting]

theorem Invariant.r45 {s : State} (h : Invariant s) : InvariantsOfR45 s where
  item1 hb := by
    obtain ⟨hc, hq, hp, ha⟩ := h.control.idle hb
    exact ⟨(Animator.resting_iff _).mp ha, hp, hq, hc⟩
  item2 ha := by
    have hc : s.curOp = some .run := by
      by_contra hc
      have hrest := (h.control.resting_of_curOp hc).1
      obtain ha | ha | ha := ha <;> rw [ha] at hrest <;> cases hrest
    obtain ⟨hb, hl, -, -⟩ := h.control.run hc
    exact ⟨hb, hc, hl⟩
  item3 := ⟨h.outLenMultiple, h.outLenBound⟩
  item4 := h.posBound
  item5 := closeCount_le_one h.closes

/-- Settles O37: the invariant holds at construction and every move keeps it. -/
theorem everyReachableStateMeetsR45 : Obligations.EveryReachableStateMeetsR45 := fun _ h => h.invariant.r45

theorem exec_shutdown_of_held {s : State} (hl : s.lc = .opened ∨ s.lc = .configured) :
    exec .shutdown s = .next ((s.accept .shutdown).request .closeT) := by
  obtain hl | hl := hl <;> simp only [exec, execShutdown, hl]

theorem exec_shutdown_of_released {s : State} (hl : s.lc = .released) : exec .shutdown s = .next (s.setErr .ok) := by
  simp only [exec, execShutdown, hl]

/-- Settles O48: the request appends the one CLOSE, its answer changes no request, and RELEASED issues no other. -/
theorem transportIsClosedExactlyOnce : Obligations.TransportIsClosedExactlyOnce := by
  intro s rest h hb hl
  have hlc : s.lc ≠ .released := by obtain hl | hl := hl <;> simp [hl]
  have hzero : closeCount s.hist = 0 := h.closeCount_of_idle hb hlc
  refine ⟨_, _, exec_shutdown_of_held hl, rfl, hzero, ?_, rfl, rfl, exec_shutdown_of_released rfl⟩
  show closeCount (answerLast .ok (s.hist ++ [⟨.closeT, none⟩])) = 1
  rw [closeCount_answerLast, closeCount_append_one, hzero]
  rfl

end Sys2Proof.Machine
end

section
/-! What every move but a reset leaves unchanged (10_state.md R20, R26, R27, R29, R35 to R37). -/

namespace Sys2Proof.Machine

/-! Frames of the three relations. -/

theorem ExecEffect.frame {s t : State} {i : Instr} (he : ExecEffect s i t) :
    t = { s with
      lc := t.lc, anim := t.anim, ph := t.ph, busy := t.busy, curOp := t.curOp, pending := t.pending, err := t.err
      pos := t.pos, repCount := t.repCount, xferCount := t.xferCount, runDelay := t.runDelay, runReps := t.runReps
      outLen := t.outLen, mem := t.mem, hist := t.hist, outDraw := t.outDraw } := by
  cases he <;> rfl

theorem AnswerEffect.frame {s t : State} {r : Response} (ht : AnswerEffect s r t) :
    t = { s with
      lc := t.lc, anim := t.anim, ph := t.ph, busy := t.busy, curOp := t.curOp, pending := t.pending, err := t.err
      repCount := t.repCount, hist := t.hist } := by
  cases ht <;> rfl

theorem WaitEffect.frame {s t : State} (ht : WaitEffect s t) :
    t = { s with anim := t.anim, ph := t.ph, pos := t.pos } := by
  cases ht <;> rfl

@[simp] theorem issueFrame_cfg (buf : List Byte) (s : State) : (s.issueFrame buf).cfg = s.cfg := rfl
@[simp] theorem issueFrame_err (buf : List Byte) (s : State) : (s.issueFrame buf).err = s.err := rfl
@[simp] theorem issueFrame_runDelay (buf : List Byte) (s : State) : (s.issueFrame buf).runDelay = s.runDelay := rfl
@[simp] theorem issueFrame_runReps (buf : List Byte) (s : State) : (s.issueFrame buf).runReps = s.runReps := rfl

/-! CFG. -/

theorem MoveEffect.cfg {s t : State} {m : Move} (hm : MoveEffect s m t) : t.cfg = s.cfg := by
  cases hm with
  | nothing | noted | argument | color | illegal | reset => rfl
  | fillIssued | offIssued => exact issueFrame_cfg _ s
  | command _ _ _ _ _ he => exact (congrArg State.cfg he.frame :)
  | answered _ _ _ _ _ ht => exact (congrArg State.cfg ht.frame :)
  | waited _ _ _ _ ht => exact (congrArg State.cfg ht.frame :)

/-- Settles O39. -/
theorem configurationNeverChanges : Obligations.ConfigurationNeverChanges := by
  intro s t h
  obtain ⟨-, rfl⟩ | ⟨m, rest, -, hm⟩ := step_effect h
  · rfl
  · exact hm.cfg

/-! The latched arguments. -/

theorem MoveEffect.latched {s t : State} {m : Move} (hm : MoveEffect s m t) (hreset : m ≠ .reset)
    (hb : s.busy = true) : t.runDelay = s.runDelay ∧ t.runReps = s.runReps := by
  cases hm with
  | nothing | noted | argument | color | illegal => exact ⟨rfl, rfl⟩
  | fillIssued | offIssued => exact ⟨issueFrame_runDelay _ s, issueFrame_runReps _ s⟩
  | command _ _ _ hb' => exact absurd (hb'.symm.trans hb) (by decide)
  | answered _ _ _ _ _ ht => exact ⟨(congrArg State.runDelay ht.frame :), (congrArg State.runReps ht.frame :)⟩
  | waited _ _ _ _ ht => exact ⟨(congrArg State.runDelay ht.frame :), (congrArg State.runReps ht.frame :)⟩
  | reset => exact absurd rfl hreset

/-- Settles O45: only a command latches, and none is accepted while BUSY. -/
theorem runArgumentsAreLatched : Obligations.RunArgumentsAreLatched := by
  intro s t hb hreset h
  obtain ⟨-, rfl⟩ | ⟨m, rest, hs, hm⟩ := step_effect h
  · exact ⟨rfl, rfl⟩
  · exact hm.latched (fun e => hreset rest (e ▸ hs)) hb

/-! XFER_COUNT. -/

@[simp] theorem xferCountIn_append_one (h : List HistEntry) (q : PortRequest) (r : Option Response) :
    xferCountIn (h ++ [⟨q, r⟩]) = xferCountIn h + xferCountIn [⟨q, r⟩] := by
  simp [xferCountIn, List.countP_append]

@[simp] theorem xferCountIn_answerLast (r : Response) (h : List HistEntry) :
    xferCountIn (answerLast r h) = xferCountIn h := by
  have hmap : ∀ l : List HistEntry, xferCountIn l =
      (l.map (·.request)).countP (fun q => match q with | .xfer _ => true | _ => false) := fun l => by
    simp only [xferCountIn, List.countP_map]
    rfl
  rw [hmap, hmap, answerLast_requests]

/-- XFER_COUNT and the transfers in HIST grow together, by at most one (R37). -/
def transfersCounted (s t : State) : Prop :=
  ∃ k, k ≤ 1 ∧ xferCountIn t.hist = xferCountIn s.hist + k ∧ t.xferCount = s.xferCount + BitVec.ofNat 32 k

theorem transfersCounted_of_eq {s t : State} (hh : xferCountIn t.hist = xferCountIn s.hist)
    (hx : t.xferCount = s.xferCount) : transfersCounted s t :=
  ⟨0, Nat.zero_le _, hh, by simp [hx]⟩

theorem transfersCounted_of_transfer {s t : State} {buf : List Byte} (hh : t.hist = s.hist ++ [⟨.xfer buf, none⟩])
    (hx : t.xferCount = s.xferCount + 1#32) : transfersCounted s t :=
  ⟨1, le_rfl, by rw [hh, xferCountIn_append_one]; rfl, hx⟩

theorem ExecEffect.transfersCounted {s t : State} {i : Instr} (he : ExecEffect s i t) : transfersCounted s t := by
  cases he with
  | errOnly | made | released | ranNothing | running => exact transfersCounted_of_eq rfl rfl
  | opening | configuring | closing => exact transfersCounted_of_eq (xferCountIn_append_one _ _ _) rfl
  | transmitting => exact transfersCounted_of_transfer rfl rfl

theorem AnswerEffect.xferCountIn {s t : State} {r : Response} (ht : AnswerEffect s r t) :
    xferCountIn t.hist = xferCountIn s.hist := by
  cases ht with
  | opened | openFailed | configured | transmitted | transmitFailed | closed | runDone | runFailed => rfl
  | fillSent | offPaused => exact xferCountIn_append_one _ _ _

theorem MoveEffect.transfersCounted {s t : State} {m : Move} (hm : MoveEffect s m t) (hreset : m ≠ .reset) :
    transfersCounted s t := by
  cases hm with
  | nothing | noted | argument | color | illegal => exact transfersCounted_of_eq rfl rfl
  | command _ _ _ _ _ he => exact he.transfersCounted
  | fillIssued | offIssued => exact transfersCounted_of_transfer rfl rfl
  | answered _ _ _ _ _ ht =>
    exact transfersCounted_of_eq (ht.xferCountIn.trans (xferCountIn_answerLast _ _))
      (congrArg State.xferCount ht.frame :)
  | waited _ _ _ _ ht =>
    exact transfersCounted_of_eq ((congrArg (xferCountIn ·.hist) ht.frame).trans (xferCountIn_answerLast _ _))
      (congrArg State.xferCount ht.frame :)
  | reset => exact absurd rfl hreset

/-- Settles O46: only a TRANSMIT and a run's transfer steps put an XFER into HIST, and both count it. -/
theorem xferCountCountsTransfers : Obligations.XferCountCountsTransfers := by
  intro s t h hreset
  obtain ⟨-, rfl⟩ | ⟨m, rest, hs, hm⟩ := step_effect h
  · exact transfersCounted_of_eq rfl rfl
  · exact hm.transfersCounted fun e => hreset rest (e ▸ hs)

/-! COLOR_RAM. -/

theorem byteAt_of_mem {s t : State} (hm : t.mem = s.mem) (hc : t.colorDraw = s.colorDraw) (hd : t.outDraw = s.outDraw)
    (a : Nat) : t.byteAt a = s.byteAt a := by
  simp only [State.byteAt, State.unwritten, hm, hc, hd]

theorem issueFrame_byteAt_of_lt (buf : List Byte) (s : State) {a : Nat} (ha : a < outBase) :
    (s.issueFrame buf).byteAt a = s.byteAt a :=
  (byteAt_of_mem rfl rfl rfl a).trans (writeOut_byteAt buf s a ha)

theorem ExecEffect.byteAt_of_lt {s t : State} {i : Instr} (he : ExecEffect s i t) {a : Nat} (ha : a < outBase) :
    t.byteAt a = s.byteAt a := by
  cases he with
  | made _ buf => exact (byteAt_of_mem rfl rfl rfl a).trans (writeOut_byteAt buf s a ha)
  | errOnly | opening | configuring | transmitting | closing | released | ranNothing | running =>
    exact byteAt_of_mem rfl rfl rfl a

theorem AnswerEffect.byteAt {s t : State} {r : Response} (ht : AnswerEffect s r t) (a : Nat) :
    t.byteAt a = s.byteAt a := by
  rw [ht.frame]
  exact byteAt_of_mem rfl rfl rfl a

theorem WaitEffect.byteAt {s t : State} (ht : WaitEffect s t) (a : Nat) : t.byteAt a = s.byteAt a := by
  rw [ht.frame]
  exact byteAt_of_mem rfl rfl rfl a

theorem answer_byteAt (r : Response) (s : State) (a : Nat) : (s.answer r).byteAt a = s.byteAt a :=
  byteAt_of_mem rfl rfl rfl a

theorem MoveEffect.byteAt_of_lt {s t : State} {m : Move} (hm : MoveEffect s m t) (hreset : m ≠ .reset)
    (hcolor : ∀ a v j, m = .host (.write a .w32 v) → placeAt s.cfg a.toNat ≠ .color j) {a : Nat} (ha : a < outBase) :
    t.byteAt a = s.byteAt a := by
  cases hm with
  | nothing => rfl
  | noted | argument | illegal => exact byteAt_of_mem rfl rfl rfl a
  | color b v j hp => exact absurd hp (hcolor b v j rfl)
  | command _ _ _ _ _ he => exact he.byteAt_of_lt ha
  | fillIssued | offIssued => exact issueFrame_byteAt_of_lt _ s ha
  | answered r _ _ _ _ ht => exact (ht.byteAt a).trans (answer_byteAt r s a)
  | waited _ _ _ _ ht => exact (ht.byteAt a).trans (answer_byteAt .done s a)
  | reset => exact absurd rfl hreset

/-- Settles O43: writing OUT keeps the bytes below OUTBUF, and no other effect but a color write touches the memory. -/
theorem onlyTheHostWritesColorRam : Obligations.OnlyTheHostWritesColorRam := by
  intro s t h hreset hcolor a ha
  obtain ⟨-, rfl⟩ | ⟨m, rest, hs, hm⟩ := step_effect h
  · rfl
  · exact hm.byteAt_of_lt (fun e => hreset rest (e ▸ hs)) (fun b v j e => hcolor b v rest j (e ▸ hs)) ha

/-! OUT and OUT_LEN. -/

/-- OUT_LEN and every byte of OUT are as they were (R34, R35). -/
def sameOut (s t : State) : Prop := t.outLen = s.outLen ∧ ∀ n, t.outByte n = s.outByte n

theorem sameOut_of_mem {s t : State} (hl : t.outLen = s.outLen) (hm : t.mem = s.mem) (hc : t.colorDraw = s.colorDraw)
    (hd : t.outDraw = s.outDraw) : sameOut s t :=
  ⟨hl, fun n => byteAt_of_mem hm hc hd (outAddr n)⟩

theorem writeColor_sameOut {s : State} (h : Invariant s) {j : Nat} (hj : j < s.cfg.ledCount) (c : Color) :
    sameOut s (s.writeColor j c) := by
  have hne : ∀ n k, k < 3 → outAddr n ≠ colorAddr j k := by
    intro n k hk
    have := colorAddr_lt_outBase h.ledCount_le hj hk
    simp only [outAddr]
    omega
  exact ⟨rfl, fun n =>
    writeColor_byteAt_of_ne c h.memWf (hne n 0 (by decide)) (hne n 1 (by decide)) (hne n 2 (by decide))⟩

theorem ExecEffect.sameOut {s t : State} {i : Instr} (he : ExecEffect s i t)
    (hi : ¬ (i = .encode ∨ i = .genOff ∨ i = .genFill)) : sameOut s t := by
  cases he with
  | made _ _ _ hi' => exact absurd hi' hi
  | errOnly | opening | configuring | transmitting | closing | released | ranNothing | running =>
    exact sameOut_of_mem rfl rfl rfl rfl

theorem AnswerEffect.sameOut {s t : State} {r : Response} (ht : AnswerEffect s r t) : sameOut s t :=
  ⟨(congrArg State.outLen ht.frame :), fun n => ht.byteAt (outAddr n)⟩

theorem WaitEffect.sameOut {s t : State} (ht : WaitEffect s t) : sameOut s t :=
  ⟨(congrArg State.outLen ht.frame :), fun n => ht.byteAt (outAddr n)⟩

theorem sameOut.trans {s t u : State} (h : sameOut s t) (h' : sameOut t u) : sameOut s u :=
  ⟨h'.1.trans h.1, fun n => (h'.2 n).trans (h.2 n)⟩

theorem answer_sameOut (r : Response) (s : State) : sameOut s (s.answer r) := sameOut_of_mem rfl rfl rfl rfl

theorem MoveEffect.sameOut {s t : State} {m : Move} (hm : MoveEffect s m t) (h : Invariant s) (hreset : m ≠ .reset)
    (hmake : ∀ v, m = .host (.write 0#22 .w32 v) →
      decode v ≠ .ok .encode ∧ decode v ≠ .ok .genOff ∧ decode v ≠ .ok .genFill)
    (hissue : m = .core → ¬ (s.curOp = some .run ∧ s.ph = .issue)) : sameOut s t := by
  cases hm with
  | nothing | noted | argument | illegal => exact sameOut_of_mem rfl rfl rfl rfl
  | color a v j hp => exact writeColor_sameOut h (lt_ledCount_of_placeAt_color hp) _
  | command v i _ _ hd he =>
    obtain ⟨hencode, hgenOff, hgenFill⟩ := hmake v rfl
    refine he.sameOut ?_
    rintro (rfl | rfl | rfl)
    · exact hencode hd
    · exact hgenOff hd
    · exact hgenFill hd
  | fillIssued hc hp | offIssued hc hp => exact absurd ⟨hc, hp⟩ (hissue rfl)
  | answered r _ _ _ _ ht => exact (answer_sameOut r s).trans ht.sameOut
  | waited _ _ _ _ ht => exact (answer_sameOut .done s).trans ht.sameOut
  | reset => exact absurd rfl hreset

/-- Settles O57. -/
theorem onlyFourThingsWriteOut : Obligations.OnlyFourThingsWriteOut := by
  intro s t hinv h hreset hmake hissue
  obtain ⟨-, rfl⟩ | ⟨m, rest, hs, hm⟩ := step_effect h
  · exact sameOut_of_mem rfl rfl rfl rfl
  · exact hm.sameOut (hinv.congr rfl) (fun e => hreset rest (e ▸ hs)) (fun v e => hmake v rest (e ▸ hs))
      (fun e => hissue rest (e ▸ hs))

/-! ERR. -/

/-- A command that writes ERR in the step that accepts it holds no BUSY. -/
theorem ExecEffect.err {s t : State} {i : Instr} (he : ExecEffect s i t) :
    t.err = s.err ∨ t.busy = s.busy ∧ t.pending = s.pending := by
  cases he with
  | errOnly | made | released | ranNothing => exact .inr ⟨rfl, rfl⟩
  | opening | configuring | transmitting | closing | running => exact .inl rfl

/-- An answer that writes ERR ends the command. -/
theorem AnswerEffect.err {s t : State} {r : Response} (ht : AnswerEffect s r t) :
    t.err = s.err ∨ t.busy = false ∧ t.pending = none := by
  cases ht with
  | opened | openFailed | configured | transmitted | transmitFailed | closed | runDone | runFailed =>
    exact .inr ⟨rfl, rfl⟩
  | fillSent | offPaused => exact .inl rfl

theorem MoveEffect.err {s t : State} {m : Move} (hm : MoveEffect s m t) (h : Invariant s) (hreset : m ≠ .reset)
    (herr : t.err ≠ s.err) :
    t.busy = false ∧ t.pending = none ∧
      ((s.busy = true ∧ ∃ r q, m = .transport r ∧ s.pending = some q ∧ ∀ d, q ≠ .wait d) ∨
       (s.busy = false ∧ ∃ v, m = .host (.write 0#22 .w32 v))) := by
  cases hm with
  | nothing | noted | argument | color => exact absurd rfl herr
  | fillIssued | offIssued => exact absurd (issueFrame_err _ s) herr
  | illegal v hb => exact ⟨hb, (h.control.idle hb).2.1, .inr ⟨hb, v, rfl⟩⟩
  | command v i _ hb _ he =>
    obtain ⟨hbusy, hpending⟩ := he.err.resolve_left herr
    exact ⟨hbusy.trans hb, hpending.trans (h.control.idle hb).2.1, .inr ⟨hb, v, rfl⟩⟩
  | answered r q _ hq hw ht =>
    obtain ⟨hbusy, hpending⟩ := ht.err.resolve_left herr
    exact ⟨hbusy, hpending, .inl ⟨h.control.busy_of_pending (by simp [hq]), r, q, rfl, hq, hw⟩⟩
  | waited _ _ _ _ ht => exact absurd (congrArg State.err ht.frame :) herr
  | reset => exact absurd rfl hreset

/-- Settles O44. -/
theorem errIsWrittenOnCompletionOnly : Obligations.ErrIsWrittenOnCompletionOnly := by
  intro s t hinv h hreset herr
  obtain ⟨-, rfl⟩ | ⟨m, rest, hs, hm⟩ := step_effect h
  · exact absurd rfl herr
  · obtain ⟨hb, hp, ⟨hbusy, r, q, rfl, hq, hw⟩ | ⟨hidle, v, rfl⟩⟩ :=
      hm.err (hinv.congr rfl) (fun e => hreset rest (e ▸ hs)) herr
    · exact ⟨hb, hp, .inl ⟨hbusy, r, rest, q, hs, hq, hw⟩⟩
    · exact ⟨hb, hp, .inr ⟨hidle, v, rest, hs⟩⟩

end Sys2Proof.Machine
end

section
/-! The map of the window (20_memory.md R50, R51), which accesses are refused (R52, R53), and reads in a row (R54). -/

namespace Sys2Proof.Machine

/-! BASE. -/

theorem offsetOfAddress_eq_some_iff {c : Cfg} {address : Nat} {a : Offset} :
    offsetOfAddress c address = some a ↔ address = addressOf c a := by
  have ha := a.isLt
  have hoffset : BitVec.ofNat 22 (address - c.base) = a ↔ (address - c.base) % 2 ^ 22 = a.toNat := by
    rw [← BitVec.toNat_inj, BitVec.toNat_ofNat]
  rw [offsetOfAddress, Option.ite_none_right_eq_some, Option.some.injEq, hoffset, addressOf]
  omega

theorem offsetOfAddress_isSome_iff {c : Cfg} {address : Nat} :
    (∃ b, offsetOfAddress c address = some b) ↔ c.base ≤ address ∧ address < c.base + 0x400000 := by
  simp [offsetOfAddress]

/-- Settles O34: offsets are below 2^22, which is 4 MiB. -/
theorem windowStandsAtBase : Obligations.WindowStandsAtBase :=
  fun _ _ _ => ⟨rfl, offsetOfAddress_eq_some_iff, offsetOfAddress_isSome_iff⟩

/-! Mapped and unmapped offsets. -/

/-- Every word of REGS is a register (10_state.md R44). -/
theorem regAt_eq_none_iff {n : Nat} (h4 : n % 4 = 0) : regAt n = none ↔ 0x30 ≤ n := by
  have hregs : ∀ k < 12, regAt (4 * k) ≠ none := by decide
  refine ⟨fun h => ?_, regAt_eq_none⟩
  by_contra hlt
  obtain ⟨k, rfl⟩ := Nat.dvd_of_mod_eq_zero h4
  exact hregs k (by omega) h

theorem placeAt_eq_unmapped_iff {c : Cfg} {n : Nat} (h4 : n % 4 = 0) :
    placeAt c n = .unmapped ↔
      0x000030 ≤ n ∧ ¬ (0x040000 ≤ n ∧ n < 0x040000 + 4 * c.ledCount) ∧
        ¬ (0x200000 ≤ n ∧ n < 0x200000 + 24 * c.ledCount) := by
  rw [← regAt_eq_none_iff h4, placeAt]
  cases regAt n with
  | some r => simp
  | none =>
    dsimp only [colorBase, outBase]
    split
    · next hcolor => simp [hcolor]
    · next hcolor =>
      split
      · next hout => simp [hout]
      · next hout => simp [hcolor, hout]

theorem readPlace_of_mapped (s : State) {p : Place} (hp : p ≠ .unmapped) : ∃ v, s.readPlace p = some v := by
  cases p with
  | reg | color | outbuf => exact ⟨_, rfl⟩
  | unmapped => exact absurd rfl hp

/-! One host access. -/

theorem step_of_schedule {s : State} {m : Move} {rest : List Move} (hs : s.schedule = m :: rest) :
    step s = moveStep m { s with schedule := rest } := by
  simp only [step, scheduledStep, hs]

section
variable {s : State} {x : HostAccess} {a : Offset} {w : Width} {v : Word} (hx : x = .read a w ∨ x = .write a w v)
include hx

theorem hostStep_of_illFormed {r : Refusal} (hr : accessForm a w = some r) : hostStep x s = .refused r := by
  obtain rfl | rfl := hx <;> simp only [hostStep, hr]

theorem hostStep_of_unmapped (hform : accessForm a w = none) (hp : placeAt s.cfg a.toNat = .unmapped) :
    hostStep x s = .refused .accessUnmapped := by
  obtain rfl | rfl := hx <;> simp only [hostStep, hform, hp] <;> rfl

end

theorem hostStep_read_next (s : State) {a : Offset} (ha : a.toNat % 4 = 0) (hp : placeAt s.cfg a.toNat ≠ .unmapped) :
    ∃ t, hostStep (.read a .w32) s = .next t := by
  obtain ⟨v, hv⟩ := readPlace_of_mapped s hp
  simp only [hostStep, accessForm_aligned ha, hv]
  exact ⟨_, rfl⟩

/-- Settles O33: `accessForm` refuses the first two kinds of access, and `placeAt` tells the other two apart. -/
theorem illFormedAccessesAreRefused : Obligations.IllFormedAccessesAreRefused := by
  intro s a w v rest x hx hs
  rw [step_of_schedule hs]
  refine ⟨fun hw => ?width, ?misaligned, ?unmapped, ?mapped⟩
  case width => exact hostStep_of_illFormed hx (if_pos hw)
  case misaligned =>
    rintro rfl ha
    exact hostStep_of_illFormed hx (by simp [accessForm, ha])
  case unmapped =>
    rintro rfl ha hreg hcolor hout
    exact hostStep_of_unmapped hx (accessForm_aligned ha) ((placeAt_eq_unmapped_iff ha).mpr ⟨hreg, hcolor, hout⟩)
  case mapped =>
    rintro rfl ha hmapped
    refine hostStep_read_next _ ha fun hp => ?_
    obtain ⟨hreg, hcolor, hout⟩ := (placeAt_eq_unmapped_iff ha).mp hp
    obtain hlt | hin | hin := hmapped
    · omega
    · exact hcolor hin
    · exact hout hin

/-! Reads in a row. -/

/-- What a read gives rests neither on the Host's record nor on the moves to come. -/
theorem readPlace_of_record (s : State) (rs : List (Offset × Word)) (ms : List Move) (p : Place) :
    State.readPlace { s with reads := rs, schedule := ms } p = s.readPlace p := by
  cases p <;> rfl

theorem read_of_step {s t : State} {a : Offset} {rest : List Move}
    (hs : s.schedule = .host (.read a .w32) :: rest) (h : step s = .next t) :
    ∃ v, s.readPlace (placeAt s.cfg a.toNat) = some v ∧
      t = { s with reads := s.reads ++ [(a, v)], schedule := rest } := by
  rw [step_of_schedule hs] at h
  obtain ⟨_, v, hx, hv, rfl⟩ | ⟨_, _, hx, -⟩ | ⟨_, _, _, hx, -⟩ | ⟨_, _, _, hx, -⟩ | ⟨_, _, _, hx, -⟩ :=
    hostStep_cases (x := .read a .w32) h
  · cases hx
    exact ⟨v, (readPlace_of_record s _ _ _).symm.trans hv, rfl⟩
  all_goals cases hx

theorem run_succ_next {M : Host.Core} {n : Nat} {s t : M.State} (h : M.run (n + 1) s = .next t) :
    ∃ u, M.step s = .next u ∧ M.run n u = .next t := by
  rw [Host.Core.run] at h
  split at h
  · next u hu => exact ⟨u, hu, h⟩
  · cases h
  · cases h

/-- A row of reads answers from the one state it starts in, and changes nothing but the Host's record. -/
theorem run_reads {bs : List Offset} {rest : List Move} {s t : State}
    (hs : s.schedule = bs.map (fun b => .host (.read b .w32)) ++ rest) (h : core.run bs.length s = .next t) :
    ∃ vs : List (Offset × Word), vs.map (·.1) = bs ∧
      (∀ x ∈ vs, s.readPlace (placeAt s.cfg x.1.toNat) = some x.2) ∧
      t = { s with reads := s.reads ++ vs, schedule := rest } := by
  induction bs generalizing s with
  | nil =>
    cases h
    obtain rfl : t.schedule = rest := hs
    exact ⟨[], rfl, by simp, by simp⟩
  | cons b bs ih =>
    obtain ⟨u, hu, hrun⟩ := run_succ_next h
    obtain ⟨v, hv, rfl⟩ := read_of_step hs hu
    obtain ⟨vs, hbs, hvs, rfl⟩ := ih rfl hrun
    refine ⟨(b, v) :: vs, by simp [hbs], List.forall_mem_cons.mpr ⟨hv, fun x hx => ?_⟩, by simp⟩
    exact (readPlace_of_record s _ _ _).symm.trans (hvs x hx)

/-- Settles O56: the first and the last read of a row answer from the same state. -/
theorem readsAreIdempotent : Obligations.ReadsAreIdempotent := by
  intro s t a between rest h
  have hlen : (a :: between ++ [a]).length = between.length + 2 := by simp
  rw [← hlen] at h
  obtain ⟨vs, hmap, hvs, rfl⟩ := run_reads rfl h
  obtain ⟨_, _, rfl, hfirst, hlast⟩ := List.map_eq_append_iff.mp hmap
  obtain ⟨⟨_, v⟩, mid, rfl, rfl, hmid⟩ := List.map_eq_cons_iff.mp hfirst
  obtain ⟨⟨_, w⟩, rfl, hoffset⟩ := List.map_eq_singleton_iff.mp hlast
  cases hoffset
  have hv := hvs _ (List.mem_append_left _ List.mem_cons_self)
  have hw := hvs _ (List.mem_append_right _ List.mem_cons_self)
  obtain rfl : v = w := Option.some.inj (hv.symm.trans hw)
  exact ⟨v, mid, hmid, by simp⟩

end Sys2Proof.Machine
end

section
/-! Where the invariant holds and the duties are kept, every move answers next (60_exceptions.md R188). -/

namespace Sys2Proof.Machine

/-! The Host. -/

theorem command_next (v : Word) {s : State} (hb : s.busy = false) : ∃ t, command v s = .next t := by
  simp only [command, hb, Bool.false_eq_true, if_false]
  cases decode v with
  | ok i => exact exec_next i s
  | error => exact ⟨_, rfl⟩

theorem writePlace_next (v : Word) (s : State) {p : Place} (hp : p ≠ .unmapped)
    (hb : p = .reg .ctrl → s.busy = false) : ∃ t, writePlace v s p = .next t := by
  cases p with
  | reg r =>
    cases r with
    | ctrl => exact command_next v (hb rfl)
    | status | err | ledCount | delay | reps | frameLen | fillIndex | outLen | xferCount | repCount | pos =>
      exact ⟨_, rfl⟩
  | color | outbuf => exact ⟨_, rfl⟩
  | unmapped => exact absurd rfl hp

theorem hostStep_write_next (v : Word) {s : State} {a : Offset} (ha : a.toNat % 4 = 0)
    (hp : placeAt s.cfg a.toNat ≠ .unmapped) (hb : a = 0#22 → s.busy = false) :
    ∃ t, hostStep (.write a .w32 v) s = .next t := by
  simp only [hostStep, accessForm_aligned ha]
  exact writePlace_next v s hp fun hctrl => hb (placeAt_eq_ctrl hctrl)

/-! The Transport and the Timer: an outstanding request belongs to a command that goes on when it is answered. -/

theorem Control.continuation_isSome {s : State} (h : Control s) {q : PortRequest} (hq : s.pending = some q)
    (hw : ∀ d, q ≠ .wait d) (r : Response) : ∃ t, continuation q r (s.answer r) = some t := by
  cases h with
  | resting _ _ hq' => exact absurd (hq.symm.trans hq') (by simp)
  | opening _ hc hq' | configuring _ hc hq' | transmitting _ hc _ hq' | closing _ hc hq' =>
    obtain rfl := Option.some.inj (hq.symm.trans hq')
    exact ⟨_, if_pos hc⟩
  | running _ hc _ hr =>
    cases hr with
    | fillSent ha hp bs hq' | offSent ha hp bs hq' =>
      obtain rfl := Option.some.inj (hq.symm.trans hq')
      simp [continuation, runAnswered, hc, ha, hp]
    | fillDelay _ _ hq' | pause _ _ hq' => exact absurd (Option.some.inj (hq.symm.trans hq')) (hw _)
    | fillIssue _ _ hq' | offIssue _ _ hq' => exact absurd (hq.symm.trans hq') (by simp)

theorem Control.runWaited_isSome {s : State} (h : Control s) {d : Word} (hq : s.pending = some (.wait d)) :
    s.curOp = some .run ∧ ∃ t, runWaited (s.answer .done) = some t := by
  cases h with
  | resting _ _ hq' | opening _ _ hq' | configuring _ _ hq' | transmitting _ _ _ hq' | closing _ _ hq' =>
    exact absurd (hq.symm.trans hq') (by simp)
  | running _ hc _ hr =>
    cases hr with
    | fillDelay ha hp | pause ha hp => exact ⟨hc, by simp [runWaited, ha, hp]⟩
    | fillIssue _ _ hq' | fillSent _ _ _ hq' | offIssue _ _ hq' | offSent _ _ _ hq' =>
      exact absurd (hq.symm.trans hq') (by simp)

theorem Control.transportStep_next {s : State} (h : Control s) {r : Response}
    (hr : ∀ q, s.pending = some q → (∀ d, q ≠ .wait d) → r ∈ q.listed) : ∃ t, transportStep r s = .next t := by
  unfold transportStep
  split
  · exact ⟨_, rfl⟩
  · exact ⟨_, rfl⟩
  · next q hw hq =>
    obtain ⟨t, ht⟩ := h.continuation_isSome hq hw r
    rw [if_pos (hr q hq hw), ht]
    exact ⟨t, rfl⟩

theorem Control.timerStep_next {s : State} (h : Control s) : ∃ t, timerStep s = .next t := by
  unfold timerStep
  split
  · next d hq _ =>
    obtain ⟨-, t, ht⟩ := h.runWaited_isSome hq
    rw [ht]
    exact ⟨t, rfl⟩
  · next d hq hc => exact absurd (h.runWaited_isSome hq).1 hc
  · exact ⟨_, rfl⟩

theorem Control.moveStep_next {s : State} (h : Control s) {m : Move} (hm : moveAllowed m s) :
    ∃ t, moveStep m s = .next t := by
  cases m with
  | host x =>
    cases x with
    | read a w =>
      obtain ⟨rfl, ha, hp⟩ := hm
      exact hostStep_read_next s ha hp
    | write a w v =>
      obtain ⟨rfl, ha, hp, hb⟩ := hm
      exact hostStep_write_next v ha hp hb
  | core | reset => exact ⟨_, rfl⟩
  | transport r => exact h.transportStep_next hm
  | timer => exact h.timerStep_next

/-- Settles O38: the invariant's control points are those from which an allowed move goes on. -/
theorem dutifulMovesNeverStop : Obligations.DutifulMovesNeverStop := by
  intro s h hallowed
  cases hs : s.schedule with
  | nil => exact ⟨s, by simp only [step, scheduledStep, hs]⟩
  | cons m rest =>
    rw [step_of_schedule hs]
    exact (h.control.congr rfl).moveStep_next (hallowed m rest hs)

end Sys2Proof.Machine
end

section
/-! The opcode map in both directions (30_encoding.md R70 to R72): which words decode, and to which command; then the step
of a CTRL write while BUSY = 0. -/

namespace Sys2Proof

/-! The two fields of a word. -/

theorem encodingLaws : ∀ i : Instr, Laws.Encoding.Statement i
  | .nop => Laws.Encoding.nop
  | .openTransport => Laws.Encoding.openTransport
  | .configure => Laws.Encoding.configure
  | .encode => Laws.Encoding.encode
  | .genOff => Laws.Encoding.genOff
  | .genFill => Laws.Encoding.genFill
  | .transmit => Laws.Encoding.transmit
  | .run => Laws.Encoding.run
  | .shutdown => Laws.Encoding.shutdown

/-- The two fields cover the word, so no bit of it is dropped. -/
theorem mbzField_append_opField (v : Word) : mbzField v ++ opField v = v := by
  refine BitVec.eq_of_getLsbD_eq fun k hk => ?_
  simp only [mbzField, opField, BitVec.getLsbD_append, BitVec.getLsbD_extractLsb']
  by_cases hlow : k < 8
  · simp [hlow]
  · have hmbz : k - 8 < 24 := by omega
    have hback : 8 + (k - 8) = k := by omega
    simp [hlow, hmbz, hback]

theorem eq_encode_iff {v : Word} {i : Instr} : v = encode i ↔ mbzField v = 0#24 ∧ opField v = opcode i := by
  constructor
  · rintro rfl
    obtain ⟨-, -, hmbz, hop, -⟩ := encodingLaws i
    exact ⟨hmbz, hop⟩
  · rintro ⟨hmbz, hop⟩
    rw [← mbzField_append_opField v, hmbz, hop, encode]

/-! The opcode map. -/

theorem decodeOp_eq_some_iff {n : Nat} {i : Instr} : decodeOp n = some i ↔ n = (opcode i).toNat := by
  constructor
  · intro h
    unfold decodeOp at h
    split at h <;> cases h <;> rfl
  · rintro rfl
    obtain ⟨-, -, -, -, hop, -⟩ := encodingLaws i
    exact hop

theorem opcode_toNat_lt (i : Instr) : (opcode i).toNat < 9 := by
  cases i <;> decide

theorem exists_decodeOp_iff {n : Nat} : (∃ i, decodeOp n = some i) ↔ n < 9 := by
  constructor
  · rintro ⟨i, h⟩
    rw [decodeOp_eq_some_iff.mp h]
    exact opcode_toNat_lt i
  · intro h
    interval_cases n <;> exact ⟨_, rfl⟩

/-! The decoder. -/

theorem decode_eq_ok_iff {v : Word} {i : Instr} :
    decode v = .ok i ↔ mbzField v = 0#24 ∧ decodeOp (opField v).toNat = some i := by
  unfold decode
  by_cases hmbz : mbzField v = 0#24
  · cases decodeOp (opField v).toNat <;> simp [hmbz]
  · simp [hmbz]

theorem decode_eq_ok_iff_eq_encode {v : Word} {i : Instr} : decode v = .ok i ↔ v = encode i := by
  rw [decode_eq_ok_iff, decodeOp_eq_some_iff, BitVec.toNat_inj, eq_encode_iff]

theorem decode_encode (i : Instr) : decode (encode i) = .ok i := decode_eq_ok_iff_eq_encode.mpr rfl

/-- The legal words are those of R72. -/
theorem exists_decode_iff {v : Word} : (∃ i, decode v = .ok i) ↔ mbzField v = 0#24 ∧ (opField v).toNat < 9 := by
  simp only [decode_eq_ok_iff, exists_and_left, exists_decodeOp_iff]

/-- Settles O2: the word is its two fields, and the opcode map is one-to-one. -/
theorem decodeAndEncodeAgree : Obligations.DecodeAndEncodeAgree :=
  ⟨fun _ _ => decode_eq_ok_iff_eq_encode, fun i _ => decode_encode i⟩

/-- Settles O1: the nine words are the commands' encodings. -/
theorem decodesTheTableWords : Obligations.DecodesTheTableWords :=
  ⟨decode_encode .nop, decode_encode .openTransport, decode_encode .configure, decode_encode .encode,
    decode_encode .genOff, decode_encode .genFill, decode_encode .transmit, decode_encode .run,
    decode_encode .shutdown, rfl, rfl, rfl, rfl⟩

end Sys2Proof

namespace Sys2Proof.Machine

/-! A CTRL write. -/

theorem step_of_ctrlWrite {s : State} {v : Word} {rest : List Move}
    (hs : s.schedule = .host (.write 0x000#22 .w32 v) :: rest) : step s = command v { s with schedule := rest } :=
  step_of_write hs rfl (p := .reg .ctrl) rfl

theorem command_of_decode_ok {s : State} {v : Word} {i : Instr} (hb : s.busy = false) (hd : decode v = .ok i) :
    command v s = exec i s := by
  simp only [command, hb, hd, Bool.false_eq_true, if_false]

theorem command_of_decode_error {s : State} {v : Word} {e : DecodeReject} (hb : s.busy = false)
    (hd : decode v = .error e) : command v s = .next (s.setErr .illegalCommand) := by
  simp only [command, hb, hd, Bool.false_eq_true, if_false, State.takeError]

/-- Settles O3: the words that R72 calls illegal are exactly those that decode to no command. -/
theorem illegalWordWritesOnlyErr : Obligations.IllegalWordWritesOnlyErr := by
  refine ⟨fun s v rest hs hb hillegal => ?illegal, fun v hmbz hop => exists_decode_iff.mpr ⟨hmbz, hop⟩⟩
  cases hd : decode v with
  | ok i =>
    obtain ⟨hmbz, hop⟩ := exists_decode_iff.mp ⟨i, hd⟩
    obtain hne | hge := hillegal
    · exact absurd hmbz hne
    · exact absurd hop (Nat.not_lt_of_le hge)
  | error e => exact (step_of_ctrlWrite hs).trans (command_of_decode_error hb hd)

/-- Settles O4: an aligned write at offset 0 is the command it decodes to. -/
theorem stepRunsTheDecodedCommand : Obligations.StepRunsTheDecodedCommand := by
  intro s v i rest hs hb hd
  exact (step_of_ctrlWrite hs).trans (command_of_decode_ok hb hd)

end Sys2Proof.Machine
end

section
/-! The bit encoder (40_bit_encoder.md R101 to R109): where each bit of a color lies in the buffer, and the decoder of R108
as the encoder's inverse; then ENCODE and GEN_OFF, which write a buffer to OUT (R111 to R113). -/

namespace Sys2Proof.Machine

/-! Which byte carries which bit. -/

theorem encBit_true (c : Cfg) : encBit c true = c.pulseHigh := rfl

theorem encBit_false (c : Cfg) : encBit c false = c.pulseLow := rfl

/-- Settles O23: the encoder's equations, one rule each. -/
theorem colorEncodingOrder : Obligations.ColorEncodingOrder := fun c x =>
  ⟨rfl, encColor_eq c x, encColor_length c x, fun _ => ⟨rfl, encBit_true c, encBit_false c⟩⟩

/-- Where every element becomes a block of `n`, block `j` starts at index `n * j`. -/
theorem getElem?_flatMap_of_length {α β : Type} {f : α → List β} {n : Nat} (hf : ∀ x, (f x).length = n) :
    ∀ {xs : List α} {j i : Nat} (hj : j < xs.length), i < n → (xs.flatMap f)[n * j + i]? = (f xs[j])[i]? := by
  intro xs
  induction xs with
  | nil => intro j i hj; simp at hj
  | cons x xs ih =>
    intro j i hj hi
    rw [List.flatMap_cons]
    cases j with
    | zero => simp [List.getElem?_append_left, hf, hi]
    | succ j =>
      have hskip : n * (j + 1) + i - n = n * j + i := by rw [Nat.mul_succ]; omega
      have hge : n ≤ n * (j + 1) + i := by rw [Nat.mul_succ]; omega
      rw [List.getElem?_append_right (by rw [hf]; exact hge), hf, hskip]
      exact ih (by simpa using hj) hi

theorem encChannel_getElem? (c : Cfg) (v : Byte) {k : Nat} (hk : k < 8) :
    (encChannel c v)[7 - k]? = some (encBit c (v.getLsbD k)) := by
  interval_cases k <;> rfl

/-- Settles O24: a color is a block of 24 bytes, a slot a block of 8 in it, its most significant bit first. -/
theorem laneMapping : Obligations.LaneMapping := by
  refine fun c xs => ⟨encodeSeq_length c xs, fun j hj slot hs k hk => ?_⟩
  have hcolor : (encodeSeq c xs)[24 * j + (8 * slot + (7 - k))]? = (encColor c xs[j])[8 * slot + (7 - k)]? :=
    getElem?_flatMap_of_length (encColor_length c) hj (by omega)
  have hslot : (encColor c xs[j])[8 * slot + (7 - k)]? = (encChannel c (channelsGRB xs[j])[slot])[7 - k]? :=
    getElem?_flatMap_of_length (encChannel_length c) (xs := channelsGRB xs[j]) hs (by omega)
  rw [Nat.add_assoc, hcolor, hslot, encChannel_getElem? c _ hk]
  rfl

/-! The off buffer. -/

theorem encColor_black (c : Cfg) : encColor c ⟨0#8, 0#8, 0#8⟩ = List.replicate 24 c.pulseLow := rfl

/-- Settles O26: a black color is 24 bytes of PULSE_LOW. -/
theorem offBufferIsEncodedBlack : Obligations.OffBufferIsEncodedBlack := by
  refine fun c => ⟨rfl, ?_⟩
  rw [offBuffer, encodeSeq, List.flatMap_replicate, encColor_black, List.flatten_replicate_replicate, Nat.mul_comm]

/-! A channel and its bits. -/

/-- The bits of a channel in the order of transmission (R103). -/
def channelBits (v : Byte) : List Bool := [7, 6, 5, 4, 3, 2, 1, 0].map v.getLsbD

/-- Bit `k` of a number read most significant bit first is the `k`th bit from the end. -/
theorem testBit_foldl_bits (bs : List Bool) :
    ∀ k, (bs.foldl (fun n (b : Bool) => 2 * n + b.toNat) 0).testBit k = bs.reverse.getD k false := by
  induction bs using List.reverseRecOn with
  | nil => simp
  | append_singleton bs b ih =>
    intro k
    simp only [List.foldl_append, List.foldl_cons, List.foldl_nil, List.reverse_append, List.reverse_singleton,
      List.singleton_append]
    rw [← Nat.bit_val]
    cases k with
    | zero => simp
    | succ k => simp [Nat.testBit_bit_succ, ih]

theorem channelOfBits_getLsbD (bs : List Bool) {k : Nat} (hk : k < 8) :
    (channelOfBits bs).getLsbD k = bs.reverse.getD k false := by
  rw [channelOfBits, BitVec.getLsbD_ofNat, testBit_foldl_bits, decide_eq_true hk, Bool.true_and]

theorem channelOfBits_channelBits (v : Byte) : channelOfBits (channelBits v) = v := by
  refine BitVec.eq_of_getLsbD_eq fun k hk => ?_
  rw [channelOfBits_getLsbD _ hk]
  interval_cases k <;> rfl

theorem channelBits_eq (v : Byte) : channelBits v = (List.range 8).map (fun i => v.getLsbD (7 - i)) := rfl

theorem channelBits_channelOfBits {bs : List Bool} (h : bs.length = 8) : channelBits (channelOfBits bs) = bs := by
  refine List.ext_getElem h.symm fun i hi hi' => ?_
  have hi8 : i < 8 := hi
  have hmsb : 8 - 1 - (7 - i) = i := by omega
  simp only [channelBits_eq, List.getElem_map, List.getElem_range]
  rw [channelOfBits_getLsbD bs (by omega), List.getD_eq_getElem _ _ (by rw [List.length_reverse, h]; omega)]
  simp only [List.getElem_reverse, h, hmsb]

theorem channelBits_channelOfBits_take {bs : List Bool} (h : 8 ≤ bs.length) :
    channelBits (channelOfBits (bs.take 8)) = bs.take 8 := channelBits_channelOfBits (List.length_take_of_le h)

/-! A color and its bits. -/

/-- The bits of a color in the order of transmission (R104). -/
def colorBits (x : Color) : List Bool := channelBits x.g ++ channelBits x.r ++ channelBits x.b

theorem encColor_eq_map_bits (c : Cfg) (x : Color) : encColor c x = (colorBits x).map (encBit c) := rfl

theorem encodeSeq_eq_map_bits (c : Cfg) (xs : List Color) :
    encodeSeq c xs = (xs.flatMap colorBits).map (encBit c) := by
  rw [List.map_flatMap]
  rfl

theorem colorsOfBits_append (x : Color) (k : Nat) (bs : List Bool) :
    colorsOfBits (k + 1) (colorBits x ++ bs) = x :: colorsOfBits k bs := by
  have hsplit : colorsOfBits (k + 1) (colorBits x ++ bs) =
      ⟨channelOfBits (channelBits x.r), channelOfBits (channelBits x.g), channelOfBits (channelBits x.b)⟩ ::
        colorsOfBits k bs := rfl
  rw [hsplit, channelOfBits_channelBits, channelOfBits_channelBits, channelOfBits_channelBits]

theorem colorsOfBits_flatMap (xs : List Color) : colorsOfBits xs.length (xs.flatMap colorBits) = xs := by
  induction xs with
  | nil => rfl
  | cons x xs ih => rw [List.length_cons, List.flatMap_cons, colorsOfBits_append, ih]

theorem flatMap_colorsOfBits {k : Nat} {bs : List Bool} (h : bs.length = 24 * k) :
    (colorsOfBits k bs).flatMap colorBits = bs := by
  induction k generalizing bs with
  | zero => exact (List.length_eq_zero_iff.mp h).symm
  | succ k ih =>
    have hcolor : bs.take 8 ++ (bs.drop 8).take 8 ++ (bs.drop 16).take 8 = bs.take 24 := by
      rw [← List.take_add, ← List.take_add]
    have hfirst : 8 ≤ bs.length := by omega
    have hslot (d : Nat) (hd : d ≤ 16) : 8 ≤ (bs.drop d).length := by rw [List.length_drop]; omega
    have hrest : (bs.drop 24).length = 24 * k := by rw [List.length_drop]; omega
    simp only [colorsOfBits, List.flatMap_cons, ih hrest, colorBits, channelBits_channelOfBits_take hfirst,
      channelBits_channelOfBits_take (hslot 8 (by decide)), channelBits_channelOfBits_take (hslot 16 (by decide)),
      hcolor, List.take_append_drop]

/-! The decoder of one byte, and of a buffer's bytes. -/

theorem decByte_isSome_iff (c : Cfg) (y : Byte) :
    (decByte c y).isSome = true ↔ y = c.pulseHigh ∨ y = c.pulseLow := by
  unfold decByte
  split_ifs with hhigh hlow
  · simp [hhigh]
  · simp [hlow]
  · simp [hhigh, hlow]

theorem decByte_eq_some_iff {c : Cfg} (hne : c.pulseHigh ≠ c.pulseLow) {y : Byte} {b : Bool} :
    decByte c y = some b ↔ y = encBit c b := by
  unfold decByte
  cases b with
  | true =>
    rw [encBit_true]
    split_ifs with hhigh <;> simp [hhigh]
  | false =>
    rw [encBit_false]
    split_ifs with hhigh hlow
    · simp [hhigh, hne]
    · simp [hlow]
    · simp [hlow]

theorem decBits_nil (c : Cfg) : decBits c [] = some [] := rfl

theorem decBits_cons_eq_some_iff {c : Cfg} {y : Byte} {ys : List Byte} {bs : List Bool} :
    decBits c (y :: ys) = some bs ↔ ∃ b, decByte c y = some b ∧ ∃ rest, decBits c ys = some rest ∧ b :: rest = bs := by
  simp only [decBits, List.mapM_cons, Option.bind_eq_bind, Option.bind_eq_some_iff, Option.pure_def, Option.some_inj]

theorem exists_decBits_iff (c : Cfg) (ys : List Byte) :
    (∃ bs, decBits c ys = some bs) ↔ ∀ y ∈ ys, y = c.pulseHigh ∨ y = c.pulseLow := by
  induction ys with
  | nil => simp [decBits_nil]
  | cons y ys ih =>
    rw [List.forall_mem_cons, ← ih, ← decByte_isSome_iff, Option.isSome_iff_exists]
    simp only [decBits_cons_eq_some_iff]
    constructor
    · rintro ⟨-, b, hb, rest, hrest, -⟩
      exact ⟨⟨b, hb⟩, rest, hrest⟩
    · rintro ⟨⟨b, hb⟩, rest, hrest⟩
      exact ⟨_, b, hb, rest, hrest, rfl⟩

theorem decBits_eq_some_iff {c : Cfg} (hne : c.pulseHigh ≠ c.pulseLow) {ys : List Byte} {bs : List Bool} :
    decBits c ys = some bs ↔ ys = bs.map (encBit c) := by
  induction ys generalizing bs with
  | nil => cases bs <;> simp [decBits_nil]
  | cons y ys ih =>
    simp only [decBits_cons_eq_some_iff, decByte_eq_some_iff hne, ih]
    cases bs with
    | nil => simp
    | cons b bs => simp [and_left_comm]

/-! DECODE. -/

theorem decodeBuffer_eq_some_iff {c : Cfg} {ys : List Byte} {xs : List Color} :
    decodeBuffer c ys = some xs ↔
      ys.length % 24 = 0 ∧ ∃ bs, decBits c ys = some bs ∧ colorsOfBits (ys.length / 24) bs = xs := by
  rw [decodeBuffer]
  split_ifs with hlen <;> simp [hlen]

theorem exists_decodeBuffer_iff (c : Cfg) (ys : List Byte) :
    (∃ xs, decodeBuffer c ys = some xs) ↔ ys.length % 24 = 0 ∧ ∀ y ∈ ys, y = c.pulseHigh ∨ y = c.pulseLow := by
  simp only [← exists_decBits_iff, decodeBuffer_eq_some_iff]
  constructor
  · rintro ⟨-, hlen, bs, hbs, -⟩
    exact ⟨hlen, bs, hbs⟩
  · rintro ⟨hlen, bs, hbs⟩
    exact ⟨_, hlen, bs, hbs, rfl⟩

theorem encodeSeq_of_decodeBuffer {c : Cfg} (hne : c.pulseHigh ≠ c.pulseLow) {ys : List Byte} {xs : List Color}
    (h : decodeBuffer c ys = some xs) : ys = encodeSeq c xs := by
  obtain ⟨hlen, bs, hbs, rfl⟩ := decodeBuffer_eq_some_iff.mp h
  have hys : ys = bs.map (encBit c) := (decBits_eq_some_iff hne).mp hbs
  have hcount : bs.length = 24 * (ys.length / 24) := by
    rw [hys, List.length_map] at hlen ⊢
    omega
  rw [encodeSeq_eq_map_bits, flatMap_colorsOfBits hcount, ← hys]

theorem decodeBuffer_encodeSeq {c : Cfg} (hne : c.pulseHigh ≠ c.pulseLow) (xs : List Color) :
    decodeBuffer c (encodeSeq c xs) = some xs := by
  have hbits : decBits c (encodeSeq c xs) = some (xs.flatMap colorBits) :=
    (decBits_eq_some_iff hne).mpr (encodeSeq_eq_map_bits c xs)
  have hcount : (encodeSeq c xs).length / 24 = xs.length := by
    rw [encodeSeq_length, Nat.mul_div_cancel_left _ (by decide)]
  exact decodeBuffer_eq_some_iff.mpr
    ⟨by rw [encodeSeq_length, Nat.mul_mod_right], _, hbits, by rw [hcount, colorsOfBits_flatMap]⟩

/-- Settles O25: bytes are patterns of bits, and colors are blocks of 24 bits. -/
theorem decodingInvertsEncoding : Obligations.DecodingInvertsEncoding := fun c bs =>
  ⟨exists_decodeBuffer_iff c bs, fun hne xs =>
    ⟨encodeSeq_of_decodeBuffer hne, fun h => h ▸ decodeBuffer_encodeSeq hne xs⟩⟩

/-! A buffer made in OUT. -/

theorem produce_outLen_toNat {buf : List Byte} (hlen : buf.length < 2 ^ 32) (s : State) :
    (s.produce buf).outLen.toNat = buf.length := by
  rw [produce_outLen, BitVec.toNat_ofNat, Nat.mod_eq_of_lt hlen]

/-- Making a buffer that OUT_LEN can count writes it to OUT, sets OUT_LEN, and leaves all but ERR. -/
theorem produce_madeBuffer {buf : List Byte} (hlen : buf.length < 2 ^ 32) (s : State) :
    madeBuffer buf s (s.produce buf) (fun u => { u with err := s.err }) :=
  ⟨produce_outLen_toNat hlen s, writeOut_outByte buf s, writeOut_byteAt buf s, rfl⟩

theorem produce_outBytes {buf : List Byte} (hlen : buf.length < 2 ^ 32) (s : State) :
    (s.produce buf).outBytes = buf := writeOut_outBytes buf s hlen

/-- OUT has at most 24 * 65535 bytes, which OUT_LEN can count (R20, R34). -/
theorem outSize_lt {c : Cfg} (hc : c.wf = true) : 24 * c.ledCount < 2 ^ 32 := by
  obtain ⟨-, hmax, -⟩ := (Cfg.wf_iff c).mp hc
  omega

/-! ENCODE and GEN_OFF. -/

theorem exec_encode_of_le {s : State} (h : s.frameLen.toNat ≤ s.cfg.ledCount) :
    exec .encode s = .next (s.produce (encodeSeq s.cfg (s.frame s.frameLen.toNat))) := if_neg (Nat.not_lt_of_le h)

theorem exec_encode_of_gt {s : State} (h : s.cfg.ledCount < s.frameLen.toNat) :
    exec .encode s = .next (s.setErr .badArgument) := if_pos h

theorem exec_genOff (s : State) : exec .genOff s = .next (s.produce (offBuffer s.cfg)) := rfl

theorem encode_buffer_length_lt {s : State} (hwf : s.cfg.wf = true) (h : s.frameLen.toNat ≤ s.cfg.ledCount) :
    (encodeSeq s.cfg (s.frame s.frameLen.toNat)).length < 2 ^ 32 := by
  rw [encodeSeq_length, frame_length]
  exact Nat.lt_of_le_of_lt (Nat.mul_le_mul_left 24 h) (outSize_lt hwf)

/-- Settles O9: both branches of ENCODE, split at LED_COUNT. -/
theorem encodeFollowsItsRule : Obligations.EncodeFollowsItsRule := by
  refine ⟨rfl, fun s hwf hle => ?_, fun s hgt => exec_encode_of_gt hgt⟩
  have hbuf := encode_buffer_length_lt hwf hle
  refine ⟨_, exec_encode_of_le hle, rfl, ?_, produce_madeBuffer hbuf s⟩
  rw [produce_outLen_toNat hbuf, encodeSeq_length, frame_length]

/-- Settles O10: GEN_OFF makes the off buffer in every state. -/
theorem genOffFollowsItsRule : Obligations.GenOffFollowsItsRule := by
  refine ⟨rfl, fun s hwf => ?_⟩
  have hbuf : (offBuffer s.cfg).length < 2 ^ 32 := by
    rw [offBuffer_length]
    exact outSize_lt hwf
  refine ⟨_, exec_genOff s, rfl, ?_, produce_madeBuffer hbuf s⟩
  rw [produce_outLen_toNat hbuf, offBuffer_length]

theorem frame_congr {s s' : State} {k : Nat} (h : ∀ j, j < k → s'.colorAt j = s.colorAt j) : s'.frame k = s.frame k :=
  List.map_congr_left fun j hj => h j (List.mem_range.mp hj)

/-- Settles O28: the operands fix the buffer, and the buffer fixes OUT below OUT_LEN. -/
theorem encodeDependsOnItsOperandsOnly : Obligations.EncodeDependsOnItsOperandsOnly := by
  intro s s' hwf hcfg hlen hle hcolors
  have hbuf := encode_buffer_length_lt hwf hle
  have hexec : exec .encode s' = .next (s'.produce (encodeSeq s.cfg (s.frame s.frameLen.toNat))) := by
    rw [exec_encode_of_le (by rw [hcfg, hlen]; exact hle), hcfg, hlen, frame_congr hcolors]
  exact ⟨_, _, exec_encode_of_le hle, hexec, rfl, by rw [produce_outBytes hbuf, produce_outBytes hbuf], rfl⟩

end Sys2Proof.Machine
end

section
/-! RUN and the sequencer's moves, one by one (41_animator.md R120 to R133): what each leaves in every field. -/

namespace Sys2Proof.Machine

/-! Fill frames. -/

theorem cycleColor_eq_getElem? (c : Cfg) (j : Nat) :
    some (cycleColor c j) = [c.colorRed, c.colorGreen, c.colorBlue][j % 3]? := by
  have hj : j % 3 < 3 := Nat.mod_lt _ (by decide)
  unfold cycleColor
  interval_cases j % 3 <;> rfl

/-- Settles O27: color j of the frame is `cycleColor` of j. -/
theorem fillFrameCyclesRedGreenBlue : Obligations.FillFrameCyclesRedGreenBlue := by
  intro c i
  refine ⟨fillFrame_length c i, fun j hj => ?_⟩
  have hlt : j < (fillFrame c i).length := by
    rw [fillFrame_length]
    omega
  rw [List.getElem?_eq_getElem hlt, fillFrame_getElem, cycleColor_eq_getElem?]

theorem encodeSeq_fillFrame_length (c : Cfg) (i : Nat) : (encodeSeq c (fillFrame c i)).length = 24 * (i + 1) := by
  rw [encodeSeq_length, fillFrame_length]

theorem encodeSeq_fillFrame_length_lt {c : Cfg} (hc : c.wf = true) {i : Nat} (hi : i < c.ledCount) :
    (encodeSeq c (fillFrame c i)).length < 2 ^ 32 := by
  rw [encodeSeq_fillFrame_length]
  exact Nat.lt_of_le_of_lt (Nat.mul_le_mul_left 24 hi) (outSize_lt hc)

theorem offBuffer_length_lt {c : Cfg} (hc : c.wf = true) : (offBuffer c).length < 2 ^ 32 := by
  rw [offBuffer_length]
  exact outSize_lt hc

/-! GEN_FILL. -/

theorem exec_genFill_of_lt {s : State} (h : s.fillIndex.toNat < s.cfg.ledCount) :
    exec .genFill s = .next (s.produce (encodeSeq s.cfg (fillFrame s.cfg s.fillIndex.toNat))) := if_pos h

theorem exec_genFill_of_ge {s : State} (h : s.cfg.ledCount ≤ s.fillIndex.toNat) :
    exec .genFill s = .next (s.setErr .badArgument) := if_neg (Nat.not_lt_of_le h)

/-- Settles O11: both branches of GEN_FILL, split at LED_COUNT. -/
theorem genFillFollowsItsRule : Obligations.GenFillFollowsItsRule := by
  refine ⟨rfl, fun s hwf hlt => ?_, fun s hge => exec_genFill_of_ge hge⟩
  have hbuf := encodeSeq_fillFrame_length_lt hwf hlt
  refine ⟨_, exec_genFill_of_lt hlt, rfl, ?_, produce_madeBuffer hbuf s⟩
  rw [produce_outLen_toNat hbuf, encodeSeq_fillFrame_length]

/-! RUN. -/

/-- What RUN leaves where it is accepted with REPS other than 0 (R123). -/
def State.startRun (s : State) : State :=
  { s with
    runDelay := s.delay, runReps := s.reps, pos := 0#32, repCount := 0#32
    busy := true, curOp := some .run, anim := .filling, ph := .issue }

theorem exec_run_of_reps {s : State} (hl : s.lc = .configured) (hr : s.reps ≠ 0#32) :
    exec .run s = .next s.startRun := by
  simp only [exec, execRun, if_pos hl, if_neg hr]
  rfl

/-- Settles O13: `execRun` tests LC, then REPS. -/
theorem runIsAcceptedByItsRule : Obligations.RunIsAcceptedByItsRule := by
  refine ⟨rfl, fun s => exec_run_of_reps, fun s hl hr => ?_, fun s hl => if_neg hl⟩
  simp only [exec, execRun, if_pos hl, if_pos hr]
  rfl

/-! The Core places a buffer in OUT and transfers it. -/

section
variable (buf : List Byte) (s : State)

theorem issueFrame_eq :
    s.issueFrame buf = { s with
      mem := s.mem.below outBase ++ Memory.cells outBase buf, outLen := BitVec.ofNat 32 buf.length
      outDraw := s.outDraw + 1, xferCount := s.xferCount + 1#32, pending := some (.xfer buf)
      hist := s.hist ++ [⟨.xfer buf, none⟩], ph := .xferWait } := rfl

@[simp] theorem issueFrame_anim : (s.issueFrame buf).anim = s.anim := rfl
@[simp] theorem issueFrame_ph : (s.issueFrame buf).ph = .xferWait := rfl
@[simp] theorem issueFrame_lc : (s.issueFrame buf).lc = s.lc := rfl
@[simp] theorem issueFrame_curOp : (s.issueFrame buf).curOp = s.curOp := rfl
@[simp] theorem issueFrame_pending : (s.issueFrame buf).pending = some (.xfer buf) := rfl
@[simp] theorem issueFrame_pos : (s.issueFrame buf).pos = s.pos := rfl
@[simp] theorem issueFrame_repCount : (s.issueFrame buf).repCount = s.repCount := rfl
@[simp] theorem issueFrame_xferCount : (s.issueFrame buf).xferCount = s.xferCount + 1#32 := rfl
@[simp] theorem issueFrame_hist : (s.issueFrame buf).hist = s.hist ++ [⟨.xfer buf, none⟩] := rfl
end

/-- What `issueFrame` does in every field, for a buffer that OUT_LEN can count (R125, R129). -/
theorem issueFrame_madeBuffer {buf : List Byte} (hlen : buf.length < 2 ^ 32) (s : State) :
    madeBuffer buf s (s.issueFrame buf)
      (fun u => { u with xferCount := s.xferCount, pending := s.pending, hist := s.hist, ph := s.ph }) := by
  refine ⟨produce_outLen_toNat hlen s, writeOut_outByte buf s, writeOut_byteAt buf s, ?_⟩
  rw [issueFrame_eq]

theorem issueFrame_outBytes {buf : List Byte} (hlen : buf.length < 2 ^ 32) (s : State) :
    (s.issueFrame buf).outBytes = buf := writeOut_outBytes buf s hlen

section
variable {s : State} (hc : s.curOp = some .run) (hp : s.ph = .issue)
include hc hp

theorem core_of_filling (ha : s.anim = .filling) :
    moveStep .core s = .next (s.issueFrame (encodeSeq s.cfg (fillFrame s.cfg s.pos.toNat))) := by
  simp only [moveStep, coreStep, hc, hp, ha]

theorem core_of_allOff (ha : s.anim = .allOff) : moveStep .core s = .next (s.issueFrame (offBuffer s.cfg)) := by
  simp only [moveStep, coreStep, hc, hp, ha]

end

/-- Settles O16. -/
theorem fillStepIssuesItsFrame : Obligations.FillStepIssuesItsFrame := by
  intro s rest hwf hpos hc ha hp hs
  have hbuf := encodeSeq_fillFrame_length_lt hwf hpos
  have hmade := issueFrame_madeBuffer hbuf { s with schedule := rest }
  refine ⟨_, (step_of_schedule hs).trans (core_of_filling hc hp ha), ?_, issueFrame_xferCount _ _,
    issueFrame_pending _ _, issueFrame_hist _ _, issueFrame_ph _ _, hmade⟩
  exact hmade.1.trans (encodeSeq_fillFrame_length _ _)

/-- Settles O19. -/
theorem allOffIssuesTheOffBuffer : Obligations.AllOffIssuesTheOffBuffer := by
  intro s rest hwf hc ha hp hs
  have hmade := issueFrame_madeBuffer (offBuffer_length_lt hwf) { s with schedule := rest }
  refine ⟨_, (step_of_schedule hs).trans (core_of_allOff hc hp ha), ?_, issueFrame_xferCount _ _,
    issueFrame_pending _ _, issueFrame_hist _ _, issueFrame_ph _ _, hmade⟩
  exact hmade.1.trans (offBuffer_length _)

/-! A port answers a request of the run. -/

/-- The newest request of HIST is the outstanding one, and it gets its response. -/
theorem answer_eq {s : State} {h : List HistEntry} {q : PortRequest} (hh : s.hist = h ++ [⟨q, none⟩]) (r : Response) :
    s.answer r = { s with pending := none, hist := h ++ [⟨q, some r⟩] } := by
  simp only [State.answer, hh, answerLast_append]

section
variable {s : State} {h : List HistEntry} {bs : List Byte} (hc : s.curOp = some .run) (hp : s.ph = .xferWait)
  (hq : s.pending = some (.xfer bs)) (hh : s.hist = h ++ [⟨.xfer bs, none⟩])
include hc hq hh

theorem transport_of_runAnswered {r : Response} {t : State} (hr : r = .ok ∨ r = .ioError)
    (ht : runAnswered r { s with pending := none, hist := h ++ [⟨.xfer bs, some r⟩] } = some t) :
    moveStep (.transport r) s = .next t := by
  rw [← answer_eq hh] at ht
  have hlisted : r ∈ (PortRequest.xfer bs).listed := by simpa [PortRequest.listed] using hr
  have hrun : continuation (.xfer bs) r (s.answer r) = some t := by simpa [continuation, hc] using ht
  simp only [moveStep, transportStep, hq, if_pos hlisted, hrun]

include hp

theorem transport_ok_of_filling (ha : s.anim = .filling) :
    moveStep (.transport .ok) s = .next { s with
      pending := some (.wait s.runDelay), ph := .delayWait
      hist := h ++ [⟨.xfer bs, some .ok⟩, ⟨.wait s.runDelay, none⟩] } := by
  refine transport_of_runAnswered hc hq hh (.inl rfl) ?_
  simp [runAnswered, ha, hp, fillSent, State.request]

theorem transport_ok_of_allOff_more (ha : s.anim = .allOff) (hn : (s.repCount + 1#32).toNat < s.runReps.toNat) :
    moveStep (.transport .ok) s = .next { s with
      repCount := s.repCount + 1#32, anim := .paused, ph := .pauseWait, pending := some (.wait s.cfg.pauseDelay)
      hist := h ++ [⟨.xfer bs, some .ok⟩, ⟨.wait s.cfg.pauseDelay, none⟩] } := by
  refine transport_of_runAnswered hc hq hh (.inl rfl) ?_
  simp only [runAnswered, ha, hp, offSent, Word.succ, if_pos hn, if_true]
  simp [State.request]

theorem transport_ok_of_allOff_last (ha : s.anim = .allOff) (hn : s.runReps.toNat ≤ (s.repCount + 1#32).toNat) :
    moveStep (.transport .ok) s = .next { s with
      repCount := s.repCount + 1#32, anim := .done, pending := none, ph := .none, curOp := none, busy := false
      err := .ok, hist := h ++ [⟨.xfer bs, some .ok⟩] } := by
  refine transport_of_runAnswered hc hq hh (.inl rfl) ?_
  simp only [runAnswered, ha, hp, offSent, Word.succ, if_neg (Nat.not_lt_of_le hn), if_true]
  rfl

theorem transport_ioError_of_run (ha : s.anim = .filling ∨ s.anim = .allOff) :
    moveStep (.transport .ioError) s = .next { s with
      anim := .aborted, pending := none, ph := .none, curOp := none, busy := false, err := .transportIoError
      hist := h ++ [⟨.xfer bs, some .ioError⟩] } := by
  refine transport_of_runAnswered hc hq hh (.inr rfl) ?_
  obtain ha | ha := ha <;> simp [runAnswered, ha, hp, State.takeError, State.complete, hc]

end

section
variable {s : State} {h : List HistEntry} {d : Word} (hc : s.curOp = some .run) (hq : s.pending = some (.wait d))
  (hh : s.hist = h ++ [⟨.wait d, none⟩])
include hc hq hh

theorem timer_of_runWaited {t : State}
    (ht : runWaited { s with pending := none, hist := h ++ [⟨.wait d, some .done⟩] } = some t) :
    moveStep .timer s = .next t := by
  rw [← answer_eq hh] at ht
  simp only [moveStep, timerStep, hq, hc, ht]

theorem timer_of_filling_next (ha : s.anim = .filling) (hp : s.ph = .delayWait)
    (hn : s.pos.toNat + 1 < s.cfg.ledCount) :
    moveStep .timer s = .next { s with
      pending := none, pos := s.pos + 1#32, ph := .issue, hist := h ++ [⟨.wait d, some .done⟩] } := by
  refine timer_of_runWaited hc hq hh ?_
  simp only [runWaited, ha, hp, delayDone, if_pos hn]
  rfl

theorem timer_of_filling_last (ha : s.anim = .filling) (hp : s.ph = .delayWait)
    (hn : s.cfg.ledCount ≤ s.pos.toNat + 1) :
    moveStep .timer s = .next { s with
      pending := none, anim := .allOff, ph := .issue, hist := h ++ [⟨.wait d, some .done⟩] } := by
  refine timer_of_runWaited hc hq hh ?_
  simp only [runWaited, ha, hp, delayDone, if_neg (Nat.not_lt_of_le hn)]

theorem timer_of_paused (ha : s.anim = .paused) (hp : s.ph = .pauseWait) :
    moveStep .timer s = .next { s with
      pending := none, pos := 0#32, anim := .filling, ph := .issue, hist := h ++ [⟨.wait d, some .done⟩] } := by
  refine timer_of_runWaited hc hq hh ?_
  simp only [runWaited, ha, hp]
  rfl

end

/-- Settles O17. -/
theorem fillStepAnswered : Obligations.FillStepAnswered := by
  intro s h rest bs hc ha hp hq hh
  exact ⟨fun hs => (step_of_schedule hs).trans (transport_ok_of_filling hc hp hq hh ha),
    fun hs => (step_of_schedule hs).trans (transport_ioError_of_run hc hp hq hh (.inl ha))⟩

/-- Settles O18: POS is tested against the last LED. -/
theorem fillDelayLeadsOn : Obligations.FillDelayLeadsOn := by
  intro s h rest d hc ha hp hq hh hs
  exact ⟨fun hn => (step_of_schedule hs).trans (timer_of_filling_next hc hq hh ha hp hn),
    fun hn => (step_of_schedule hs).trans (timer_of_filling_last hc hq hh ha hp hn)⟩

/-- Settles O20: the counted repetition is tested against RUN_REPS. -/
theorem allOffAnswered : Obligations.AllOffAnswered := by
  intro s h rest bs hc ha hp hq hh
  exact ⟨fun hs hn => (step_of_schedule hs).trans (transport_ok_of_allOff_more hc hp hq hh ha hn),
    fun hs hn => (step_of_schedule hs).trans (transport_ok_of_allOff_last hc hp hq hh ha hn),
    fun hs => (step_of_schedule hs).trans (transport_ioError_of_run hc hp hq hh (.inr ha))⟩

/-- Settles O21. -/
theorem pauseLeadsBackToFirstFill : Obligations.PauseLeadsBackToFirstFill := by
  intro s h rest d hc ha hp hq hh hs
  exact (step_of_schedule hs).trans (timer_of_paused hc hq hh ha hp)

end Sys2Proof.Machine
end

section
/-! The transition table (41_animator.md R137), and what the steps of a run leave alone (R134). -/

namespace Sys2Proof.Machine

/-! A move that serves the run makes one row of the table. -/

theorem RunPoint.anim_of_issue {s : State} (h : RunPoint s) (hp : s.ph = .issue) :
    s.anim = .filling ∨ s.anim = .allOff := by
  cases h with
  | fillIssue ha => exact .inl ha
  | offIssue ha => exact .inr ha
  | fillSent _ hp' | fillDelay _ hp' | offSent _ hp' | pause _ hp' => exact absurd (hp.symm.trans hp') (by decide)

theorem RunPoint.xfer_of_pending {s : State} (h : RunPoint s) {q : PortRequest} (hq : s.pending = some q)
    (hw : ∀ d, q ≠ .wait d) : ∃ bs, q = .xfer bs := by
  cases h with
  | fillSent _ _ bs hq' | offSent _ _ bs hq' => exact ⟨bs, Option.some.inj (hq.symm.trans hq')⟩
  | fillDelay _ _ hq' | pause _ _ hq' => exact absurd (Option.some.inj (hq.symm.trans hq')) (hw _)
  | fillIssue _ _ hq' | offIssue _ _ hq' => exact absurd (hq.symm.trans hq') (by simp)

theorem toNat_succ_of_lt {w b : Word} (h : w.toNat < b.toNat) : (Word.succ w).toNat = w.toNat + 1 := by
  have hone : (1#32).toNat = 1 := rfl
  have hb := b.isLt
  rw [Word.succ, BitVec.toNat_add, hone, Nat.mod_eq_of_lt (by omega)]

theorem transition_of_core {s : State} (hc : s.curOp = some .run) (hp : s.ph = .issue) (hr : RunPoint s) :
    Transition s (coreStep s) .core := by
  obtain ⟨-, -, ha, e⟩ | ⟨-, -, ha, e⟩ | ⟨-, hnone⟩ := coreStep_cases s
  · rw [e]
    exact .issueFill ⟨ha, hp, rfl⟩ ⟨by simp [ha], by simp⟩ (by simp) (by simp) (by simp)
  · rw [e]
    exact .issueOff ⟨ha, hp, rfl⟩ ⟨by simp [ha], by simp⟩ (by simp) (by simp) (by simp)
  · exact absurd ⟨hc, hp, hr.anim_of_issue hp⟩ hnone

/-- The repetitions counted so far are fewer than RUN_REPS, so the next count does not wrap. -/
theorem AnswerEffect.transition {s t : State} {r : Response} (ht : AnswerEffect (s.answer r) r t)
    (hc : s.curOp = some .run) (hn : s.repCount.toNat < s.runReps.toNat) (hr : r = .ok ∨ r = .ioError) :
    Transition s t (.transport r) := by
  have hsucc := toNat_succ_of_lt hn
  cases ht with
  | opened hc' | openFailed hc' | configured hc' | transmitted hc' | transmitFailed hc' | closed hc' =>
    exact absurd (hc.symm.trans hc') (by decide)
  | fillSent _ ha hp hok =>
    subst hok
    exact .fillOk ⟨ha, hp, rfl⟩ ⟨ha, rfl⟩ rfl rfl rfl
  | offPaused _ ha hp hok hmore =>
    subst hok
    exact .offPause ⟨ha, hp, rfl⟩ (hsucc ▸ hmore) ⟨rfl, rfl⟩ rfl hsucc rfl
  | runDone _ ha hp hok hlast =>
    subst hok
    have hlast : s.runReps.toNat ≤ (Word.succ s.repCount).toNat := hlast
    have hcount : (Word.succ s.repCount).toNat = s.runReps.toNat := by omega
    exact .offDone ⟨ha, hp, rfl⟩ (hsucc.symm.trans hcount) ⟨rfl, rfl⟩ rfl (BitVec.eq_of_toNat_eq hcount) rfl
  | runFailed _ ha hp hok =>
    obtain rfl := hr.resolve_left hok
    obtain ha | ha := ha
    · exact .fillFailed ⟨ha, hp, rfl⟩ ⟨rfl, rfl⟩ rfl rfl rfl
    · exact .offFailed ⟨ha, hp, rfl⟩ ⟨rfl, rfl⟩ rfl rfl rfl

/-- POS is below LED_COUNT, so the next POS does not wrap, and the last fill step is the one of the last LED. -/
theorem WaitEffect.transition {s t : State} (ht : WaitEffect (s.answer .done) t) (h : Invariant s) :
    Transition s t .timer := by
  have hmax := h.ledCount_le
  have hpos := h.posBound
  cases ht with
  | nextFill ha hp hlt =>
    have hsucc : (Word.succ s.pos).toNat = s.pos.toNat + 1 :=
      toNat_succ_of_lt (b := BitVec.ofNat 32 s.cfg.ledCount) (by simp; omega)
    exact .nextFill ⟨ha, hp, rfl⟩ hlt ⟨ha, rfl⟩ hsucc rfl rfl
  | lastFill ha hp hle =>
    have hle : s.cfg.ledCount ≤ s.pos.toNat + 1 := hle
    exact .lastFill ⟨ha, hp, rfl⟩ (by omega) ⟨rfl, rfl⟩ rfl rfl rfl
  | again ha hp => exact .again ⟨ha, hp, rfl⟩ ⟨rfl, rfl⟩ rfl rfl rfl

theorem Invariant.transition {s t : State} {m : Move} (h : Invariant s) (hc : s.curOp = some .run)
    (hserves : serves m s) (hm : moveStep m s = .next t) : Transition s t m := by
  obtain ⟨-, -, hr, hn⟩ := h.control.run hc
  cases m with
  | host | reset => exact absurd hserves id
  | core =>
    cases hm
    exact transition_of_core hc hserves.2 hr
  | transport r =>
    obtain ⟨q, hq, hw⟩ := hserves
    obtain ⟨-, hnone | ⟨d, hwait⟩⟩ | ⟨q', hq', -, hlisted, hk⟩ := transportStep_cases hm
    · exact absurd (hq.symm.trans hnone) (by simp)
    · exact absurd (Option.some.inj (hq.symm.trans hwait)) (hw d)
    · obtain rfl := Option.some.inj (hq.symm.trans hq')
      obtain ⟨bs, rfl⟩ := hr.xfer_of_pending hq hw
      exact (continuation_effect hk).transition hc hn (by simpa [PortRequest.listed] using hlisted)
  | timer =>
    obtain ⟨d, hq⟩ := hserves
    obtain ⟨-, hnone⟩ | ⟨-, -, -, hk⟩ := timerStep_cases hm
    · exact absurd hq (hnone d)
    · exact (runWaited_effect hk).transition h

/-- The table does not read the moves to come. -/
theorem Transition.of_schedule {s t : State} {m : Move} {ms : List Move}
    (h : Transition { s with schedule := ms } t m) : Transition s t m := by
  cases h with
  | issueFill h h' hp hr hq => exact .issueFill h h' hp hr hq
  | fillOk h h' hp hr hq => exact .fillOk h h' hp hr hq
  | fillFailed h h' hp hr hq => exact .fillFailed h h' hp hr hq
  | nextFill h hn h' hp hr hq => exact .nextFill h hn h' hp hr hq
  | lastFill h hn h' hp hr hq => exact .lastFill h hn h' hp hr hq
  | issueOff h h' hp hr hq => exact .issueOff h h' hp hr hq
  | offPause h hn h' hp hr hq => exact .offPause h hn h' hp hr hq
  | offDone h hn h' hp hr hq => exact .offDone h hn h' hp hr hq
  | offFailed h h' hp hr hq => exact .offFailed h h' hp hr hq
  | again h h' hp hr hq => exact .again h h' hp hr hq

/-! Every other move leaves the control point. -/

/-- AS, PH, POS and REP_COUNT are as they were. -/
def sameControlPoint (s t : State) : Prop :=
  t.anim = s.anim ∧ t.ph = s.ph ∧ t.pos = s.pos ∧ t.repCount = s.repCount

theorem MoveEffect.sameControlPoint_of_not_serves {s t : State} {m : Move} (hm : MoveEffect s m t)
    (hb : s.busy = true) (hreset : m ≠ .reset) (hserves : ¬ serves m s) : sameControlPoint s t := by
  cases hm with
  | nothing | noted | argument | color => exact ⟨rfl, rfl, rfl, rfl⟩
  | illegal _ hb' | command _ _ _ hb' => exact absurd (hb'.symm.trans hb) (by decide)
  | fillIssued hc hp | offIssued hc hp => exact absurd ⟨hc, hp⟩ hserves
  | answered _ q _ hq hw => exact absurd ⟨q, hq, hw⟩ hserves
  | waited d _ hq => exact absurd ⟨d, hq⟩ hserves
  | reset => exact absurd rfl hreset

theorem AnswerEffect.sameControlPoint_of_curOp {s t : State} {r : Response} (ht : AnswerEffect s r t)
    (hc : s.curOp ≠ some .run) (hp : s.ph = .none) : sameControlPoint s t := by
  cases ht with
  | opened | openFailed | configured | transmitted | transmitFailed | closed => exact ⟨rfl, hp.symm, rfl, rfl⟩
  | fillSent hc' | offPaused hc' | runDone hc' | runFailed hc' => exact absurd hc' hc

/-- The move is an accepted RUN: the first two rows of R137. -/
def acceptedRun (s t : State) (m : Move) : Prop :=
  m = .host (.write 0x000#22 .w32 0x00000007#32) ∧ s.busy = false ∧ s.lc = .configured ∧ t.pos = 0#32 ∧
    t.repCount = 0#32 ∧ t.pending = none ∧
    ((s.reps = 0#32 ∧ t.anim = .done ∧ t.ph = .none) ∨ (s.reps ≠ 0#32 ∧ t.anim = .filling ∧ t.ph = .issue))

theorem ExecEffect.sameControlPoint_or_acceptedRun {s t : State} {i : Instr} (he : ExecEffect s i t)
    (h : Invariant s) (hb : s.busy = false) :
    sameControlPoint s t ∨ acceptedRun s t (.host (.write 0x000#22 .w32 (encode i))) := by
  obtain ⟨-, hq, hp, -⟩ := h.control.idle hb
  cases he with
  | errOnly | made | opening | configuring | transmitting | closing | released => exact .inl ⟨rfl, rfl, rfl, rfl⟩
  | ranNothing hl hr => exact .inr ⟨rfl, hb, hl, rfl, rfl, hq, .inl ⟨hr, rfl, hp⟩⟩
  | running hl hr => exact .inr ⟨rfl, hb, hl, rfl, rfl, hq, .inr ⟨hr, rfl, rfl⟩⟩

theorem MoveEffect.sameControlPoint_or_acceptedRun {s t : State} {m : Move} (hm : MoveEffect s m t)
    (h : Invariant s) (hc : s.curOp ≠ some .run) (hreset : m ≠ .reset) :
    sameControlPoint s t ∨ acceptedRun s t m := by
  cases hm with
  | nothing | noted | argument | color | illegal => exact .inl ⟨rfl, rfl, rfl, rfl⟩
  | command v i _ hb hd he =>
    obtain rfl := decode_eq_ok_iff_eq_encode.mp hd
    exact he.sameControlPoint_or_acceptedRun h hb
  | fillIssued hc' | offIssued hc' => exact absurd hc' hc
  | answered _ _ _ _ _ ht => exact .inl (ht.sameControlPoint_of_curOp hc (h.control.resting_of_curOp hc).2)
  | waited _ _ _ hc' => exact absurd hc' hc
  | reset => exact absurd rfl hreset

/-- Settles O22: a serving move is one row, and the effects of the other moves leave the control point. -/
theorem sequencerFollowsTheTransitionTable : Obligations.SequencerFollowsTheTransitionTable := by
  refine ⟨fun s t m rest h hc hs hreset hstep => ⟨fun hserves => ?_, fun hserves => ?_⟩,
    fun s t m rest h hc hs hreset hstep => ?_⟩ <;> rw [step_of_schedule hs] at hstep
  · exact Transition.of_schedule (ms := rest) ((h.congr rfl).transition hc hserves hstep)
  · exact (moveStep_effect hstep).sameControlPoint_of_not_serves (h.control.run hc).1 hreset hserves
  · exact (moveStep_effect hstep).sameControlPoint_or_acceptedRun (h.congr rfl) hc hreset

/-! What the steps of a run leave alone. -/

/-- HIST keeps its requests, and gains transfers and waits only. -/
def addsRunRequests (s t : State) : Prop :=
  ∃ qs, t.hist.map (·.request) = s.hist.map (·.request) ++ qs ∧
    ∀ q ∈ qs, (∃ bs, q = .xfer bs) ∨ ∃ d, q = .wait d

theorem addsRunRequests_of_same {s t : State} (h : t.hist.map (·.request) = s.hist.map (·.request)) :
    addsRunRequests s t := ⟨[], by simpa using h, by simp⟩

theorem addsRunRequests_of_xfer {s t : State} {bs : List Byte} {o : Option Response}
    (h : t.hist = s.hist ++ [⟨.xfer bs, o⟩]) : addsRunRequests s t := ⟨[.xfer bs], by simp [h], by simp⟩

theorem addsRunRequests_of_wait {s t : State} {d : Word} {o : Option Response} {r : Response}
    (h : t.hist = answerLast r s.hist ++ [⟨.wait d, o⟩]) : addsRunRequests s t := ⟨[.wait d], by simp [h], by simp⟩

theorem AnswerEffect.addsRunRequests {s t : State} {r : Response} (ht : AnswerEffect (s.answer r) r t)
    (hc : s.curOp = some .run) : addsRunRequests s t := by
  cases ht with
  | opened hc' | openFailed hc' | configured hc' | transmitted hc' | transmitFailed hc' | closed hc' =>
    exact absurd (hc.symm.trans hc') (by decide)
  | fillSent | offPaused => exact addsRunRequests_of_wait rfl
  | runDone | runFailed => exact addsRunRequests_of_same (answerLast_requests r s.hist)

/-- From `s` to `t` only fields changed that a step of a run may write: those taken from `t` here (R134). -/
def runFrame (s t : State) : Prop :=
  t = { s with
    anim := t.anim, ph := t.ph, busy := t.busy, curOp := t.curOp, pending := t.pending, err := t.err, pos := t.pos
    repCount := t.repCount, xferCount := t.xferCount, outLen := t.outLen, mem := t.mem, hist := t.hist
    outDraw := t.outDraw }

theorem issueFrame_runFrame (buf : List Byte) (s : State) : runFrame s (s.issueFrame buf) := rfl

theorem AnswerEffect.runFrame {s t : State} {r : Response} (ht : AnswerEffect (s.answer r) r t)
    (hc : s.curOp = some .run) : runFrame s t := by
  cases ht with
  | opened hc' | openFailed hc' | configured hc' | transmitted hc' | transmitFailed hc' | closed hc' =>
    exact absurd (hc.symm.trans hc') (by decide)
  | fillSent | offPaused | runDone | runFailed => rfl

theorem WaitEffect.runFrame {s t : State} (ht : WaitEffect (s.answer .done) t) : runFrame s t := by
  cases ht <;> rfl

section
variable {s t : State} {m : Move} (hm : MoveEffect s m t) (hc : s.curOp = some .run) (hhost : m.fromHost = false)
  (hreset : m ≠ .reset)
include hm hc hhost hreset

theorem MoveEffect.addsRunRequests_of_run : addsRunRequests s t := by
  cases hm with
  | nothing => exact addsRunRequests_of_same rfl
  | noted | argument | color | illegal | command => exact absurd hhost (by simp [Move.fromHost])
  | fillIssued | offIssued => exact addsRunRequests_of_xfer (issueFrame_hist _ s)
  | answered r _ _ _ _ ht => exact ht.addsRunRequests hc
  | waited _ _ _ _ ht =>
    refine addsRunRequests_of_same ?_
    rw [ht.frame]
    exact answerLast_requests .done s.hist
  | reset => exact absurd rfl hreset

theorem MoveEffect.runFrame : runFrame s t := by
  cases hm with
  | nothing => rfl
  | noted | argument | color | illegal | command => exact absurd hhost (by simp [Move.fromHost])
  | fillIssued | offIssued => exact issueFrame_runFrame _ s
  | answered r _ _ _ _ ht => exact ht.runFrame hc
  | waited _ _ _ _ ht => exact ht.runFrame
  | reset => exact absurd rfl hreset

end

/-- Settles O42: the frame of a run's step, HIST, and the bytes below OUTBUF. -/
theorem runWritesOnlyItsOwnState : Obligations.RunWritesOnlyItsOwnState := by
  intro s t m rest h hc hs hagent hstep
  rw [step_of_schedule hs] at hstep
  have hm := moveStep_effect hstep
  have hhost : m.fromHost = false ∧ m ≠ .reset := by
    obtain rfl | ⟨r, rfl⟩ | rfl := hagent <;> exact ⟨rfl, by simp⟩
  obtain ⟨hhost, hreset⟩ := hhost
  have hbytes : ∀ a, a < outBase → t.byteAt a = s.byteAt a := fun a ha =>
    hm.byteAt_of_lt hreset (fun b v j e => absurd hhost (by simp [e, Move.fromHost])) ha
  have hhist : addsRunRequests s t := hm.addsRunRequests_of_run hc hhost hreset
  refine ⟨?_, ?_, ?_, ?_, ?_, ?_, ?_, ?_, ?_, hbytes, hhist⟩ <;> rw [hm.runFrame hc hhost hreset]

end Sys2Proof.Machine
end

section
/-! The closed forms of a run's HIST (41_animator.md R135, R136), by transfers: after `sentHist`, which each transfer
but the last and its wait extend, the last transfer has the response that ends the run. -/

namespace Sys2Proof.Machine

/-! Transfer number `g` of a run is slot `g % (N + 1)` of repetition `g / (N + 1)`: N fill frames, then the off
buffer. -/

theorem slot_succ_of_lt {n g : Nat} (h : g % (n + 1) < n) :
    (g + 1) / (n + 1) = g / (n + 1) ∧ (g + 1) % (n + 1) = g % (n + 1) + 1 := by
  have hg := Nat.mod_add_div g (n + 1)
  exact (Nat.div_mod_unique (Nat.add_one_pos n)).mpr ⟨by omega, by omega⟩

theorem slot_succ_of_not_lt {n g : Nat} (h : ¬ g % (n + 1) < n) :
    (g + 1) / (n + 1) = g / (n + 1) + 1 ∧ (g + 1) % (n + 1) = 0 := by
  have hg := Nat.mod_add_div g (n + 1)
  have hlt := Nat.mod_lt g (Nat.add_one_pos n)
  have hmul : (n + 1) * (g / (n + 1) + 1) = (n + 1) * (g / (n + 1)) + (n + 1) := by ring
  exact (Nat.div_mod_unique (Nat.add_one_pos n)).mpr ⟨by omega, Nat.add_one_pos n⟩

/-- The last transfer of `r` repetitions is the off buffer of the last one. -/
theorem slot_of_last {n r k : Nat} (h : k + 1 = r * (n + 1)) : k / (n + 1) + 1 = r ∧ k % (n + 1) = n := by
  obtain ⟨r, rfl⟩ : ∃ m, r = m + 1 := Nat.exists_eq_succ_of_ne_zero (by rintro rfl; omega)
  have hmul : (r + 1) * (n + 1) = (n + 1) * r + (n + 1) := by ring
  have hslot : k / (n + 1) = r ∧ k % (n + 1) = n :=
    (Nat.div_mod_unique (Nat.add_one_pos n)).mpr ⟨by omega, Nat.lt_succ_self n⟩
  exact ⟨by rw [hslot.1], hslot.2⟩

section
variable {c : Cfg} {d : Word} {g : Nat}

theorem runBuffer_of_lt (h : g % (c.ledCount + 1) < c.ledCount) :
    runBuffer c g = encodeSeq c (fillFrame c (g % (c.ledCount + 1))) := if_pos h

theorem runBuffer_of_not_lt (h : ¬ g % (c.ledCount + 1) < c.ledCount) : runBuffer c g = offBuffer c := if_neg h

theorem runWait_of_lt (h : g % (c.ledCount + 1) < c.ledCount) : runWait c d g = d := if_pos h

theorem runWait_of_not_lt (h : ¬ g % (c.ledCount + 1) < c.ledCount) : runWait c d g = c.pauseDelay := if_neg h

theorem runBuffer_length_lt (hc : c.wf = true) (g : Nat) : (runBuffer c g).length < 2 ^ 32 := by
  by_cases h : g % (c.ledCount + 1) < c.ledCount
  · rw [runBuffer_of_lt h]
    exact encodeSeq_fillFrame_length_lt hc h
  · rw [runBuffer_of_not_lt h]
    exact offBuffer_length_lt hc

end

/-! HIST, transfer by transfer. -/

/-- What the first `k` transfers of a run, each answered OK, and the waits after them append to HIST. -/
def sentHist (c : Cfg) (d : Word) (k : Nat) : List HistEntry :=
  (List.range k).flatMap (fun g => [⟨.xfer (runBuffer c g), some .ok⟩, ⟨.wait (runWait c d g), some .done⟩])

/-- HIST of a run whose transfer number `k`, counting from 0, is answered `r` and is the last. -/
def endedHist (c : Cfg) (d : Word) (k : Nat) (r : Response) : List HistEntry :=
  sentHist c d k ++ [⟨.xfer (runBuffer c k), some r⟩]

section
variable (c : Cfg) (d : Word)

theorem failedRunHist_eq (k : Nat) : failedRunHist c d k = endedHist c d k .ioError := rfl

@[simp] theorem sentHist_zero : sentHist c d 0 = [] := rfl

theorem sentHist_succ (k : Nat) :
    sentHist c d (k + 1) =
      sentHist c d k ++ [⟨.xfer (runBuffer c k), some .ok⟩] ++ [⟨.wait (runWait c d k), some .done⟩] := by
  simp [sentHist, List.range_succ]

theorem xferCountIn_sentHist (k : Nat) : xferCountIn (sentHist c d k) = k := by
  induction k with
  | zero => rfl
  | succ k ih =>
    rw [sentHist_succ, xferCountIn_append_one, xferCountIn_append_one, ih]
    rfl

theorem xferCountIn_endedHist (k : Nat) (r : Response) : xferCountIn (endedHist c d k r) = k + 1 := by
  rw [endedHist, xferCountIn_append_one, xferCountIn_sentHist]
  rfl

theorem endedHist_requests_succ (k : Nat) (r r' : Response) :
    (endedHist c d (k + 1) r').map (·.request) =
      (endedHist c d k r).map (·.request) ++ [.wait (runWait c d k), .xfer (runBuffer c (k + 1))] := by
  simp [endedHist, sentHist_succ]

/-- A run that ends earlier has issued the first requests of one that ends later. -/
theorem endedHist_requests_prefix {k l : Nat} (h : k ≤ l) (r r' : Response) :
    (endedHist c d k r).map (·.request) <+: (endedHist c d l r').map (·.request) := by
  induction l, h using Nat.le_induction generalizing r' with
  | base => simp [endedHist]
  | succ l _ ih => exact (ih r').trans (endedHist_requests_succ c d l r' r' ▸ List.prefix_append _ _)

/-! HIST, repetition by repetition. -/

/-- What the first `i` fill steps of a repetition append to HIST. -/
def fillsHist (i : Nat) : List HistEntry :=
  (List.range i).flatMap (fun i => [⟨.xfer (encodeSeq c (fillFrame c i)), some .ok⟩, ⟨.wait d, some .done⟩])

theorem repetitionHist_eq :
    repetitionHist c d = fillsHist c d c.ledCount ++ [⟨.xfer (offBuffer c), some .ok⟩] := rfl

theorem fillsHist_succ (i : Nat) :
    fillsHist c d (i + 1) =
      fillsHist c d i ++ [⟨.xfer (encodeSeq c (fillFrame c i)), some .ok⟩] ++ [⟨.wait d, some .done⟩] := by
  simp [fillsHist, List.range_succ]

theorem sentHist_fills (rep : Nat) {i : Nat} (hi : i ≤ c.ledCount) :
    sentHist c d (rep * (c.ledCount + 1) + i) = sentHist c d (rep * (c.ledCount + 1)) ++ fillsHist c d i := by
  induction i with
  | zero => simp [fillsHist]
  | succ i ih =>
    have hslot : (rep * (c.ledCount + 1) + i) % (c.ledCount + 1) = i := by
      rw [Nat.mul_add_mod', Nat.mod_eq_of_lt (by omega)]
    have hlt : (rep * (c.ledCount + 1) + i) % (c.ledCount + 1) < c.ledCount := by omega
    rw [← Nat.add_assoc, sentHist_succ, ih (by omega), runBuffer_of_lt hlt, runWait_of_lt hlt, hslot, fillsHist_succ]
    simp

theorem slot_of_off (rep : Nat) :
    ¬ (rep * (c.ledCount + 1) + c.ledCount) % (c.ledCount + 1) < c.ledCount := by
  rw [Nat.mul_add_mod', Nat.mod_eq_of_lt (Nat.lt_succ_self _)]
  exact Nat.lt_irrefl _

theorem sentHist_repetitions (r : Nat) :
    sentHist c d (r * (c.ledCount + 1)) =
      (List.range r).flatMap (fun _ => repetitionHist c d ++ [⟨.wait c.pauseDelay, some .done⟩]) := by
  induction r with
  | zero => simp
  | succ r ih =>
    have hoff := slot_of_off c r
    rw [Nat.succ_mul, ← Nat.add_assoc, sentHist_succ, sentHist_fills c d r le_rfl, runBuffer_of_not_lt hoff,
      runWait_of_not_lt hoff, ih, List.range_succ, List.flatMap_append, repetitionHist_eq]
    simp

/-- R135's sequence of `r + 1` repetitions, by transfers. -/
theorem runHist_eq_endedHist (r : Nat) :
    runHist c d (r + 1) = endedHist c d (r * (c.ledCount + 1) + c.ledCount) .ok := by
  have hoff := slot_of_off c r
  have hpauses : ∀ rep ∈ List.range r,
      (repetitionHist c d ++ if rep + 1 < r + 1 then [⟨.wait c.pauseDelay, some .done⟩] else []) =
        repetitionHist c d ++ [⟨.wait c.pauseDelay, some .done⟩] := by
    intro rep hrep
    rw [if_pos (Nat.succ_lt_succ (List.mem_range.mp hrep))]
  rw [runHist, List.range_succ, List.flatMap_append, List.flatMap_congr hpauses, endedHist,
    sentHist_fills c d r le_rfl, sentHist_repetitions, runBuffer_of_not_lt hoff, repetitionHist_eq]
  simp

/-! Bytes sent. -/

theorem bytesSent_append (h h' : List HistEntry) : bytesSent (h ++ h') = bytesSent h + bytesSent h' := by
  simp [bytesSent]

theorem bytesSent_xfer (bs : List Byte) (r : Option Response) : bytesSent [⟨.xfer bs, r⟩] = bs.length := rfl

theorem bytesSent_wait (w : Word) (r : Option Response) : bytesSent [⟨.wait w, r⟩] = 0 := rfl

theorem bytesSent_fillsHist (i : Nat) : bytesSent (fillsHist c d i) = 12 * i * (i + 1) := by
  induction i with
  | zero => rfl
  | succ i ih =>
    rw [fillsHist_succ, bytesSent_append, bytesSent_append, ih, bytesSent_xfer, bytesSent_wait,
      encodeSeq_fillFrame_length]
    ring

theorem bytesSent_repetitionHist :
    bytesSent (repetitionHist c d) = 12 * c.ledCount * (c.ledCount + 1) + 24 * c.ledCount := by
  rw [repetitionHist_eq, bytesSent_append, bytesSent_fillsHist, bytesSent_xfer, offBuffer_length]

theorem bytesSent_flatMap_range {f : Nat → List HistEntry} {b : Nat} (hf : ∀ i, bytesSent (f i) = b) (r : Nat) :
    bytesSent ((List.range r).flatMap f) = r * b := by
  induction r with
  | zero => simp [bytesSent]
  | succ r ih =>
    rw [List.range_succ, List.flatMap_append, bytesSent_append, ih, List.flatMap_singleton, hf, Nat.succ_mul]

/-- The total of R135: the pauses between repetitions send nothing. -/
theorem bytesSent_runHist (r : Nat) :
    bytesSent (runHist c d r) = r * (12 * c.ledCount * (c.ledCount + 1) + 24 * c.ledCount) := by
  refine bytesSent_flatMap_range (fun rep => ?_) r
  rw [bytesSent_append, bytesSent_repetitionHist]
  split <;> rfl

end

end Sys2Proof.Machine
end

section
/-! The Host's accesses fall anywhere between the other agents' moves (20_memory.md R59, 70_reset_and_hazards.md R199):
`Interleaves`, with one rule for no move and one for a first move of another agent. -/

namespace Sys2Proof.Machine

/-! What the Host can change during a run. -/

/-- From `s` to `t` only the argument registers, COLOR_RAM, the moves to come and the Host's record changed. -/
structure HostFrame (s t : State) : Prop where
  fields : t = { s with
    delay := t.delay, reps := t.reps, frameLen := t.frameLen, fillIndex := t.fillIndex, mem := t.mem
    schedule := t.schedule, reads := t.reads }
  out : sameOut s t

/-- `P` holds whatever the Host does during a run. -/
def HostStable (P : State → Prop) : Prop := ∀ s t, HostFrame s t → P s → P t

theorem sameOut.outBytes {s t : State} (h : sameOut s t) : t.outBytes = s.outBytes := by
  obtain ⟨hlen, hbytes⟩ := h
  simp only [State.outBytes, hlen, funext hbytes]

theorem hostFrame_schedule (s : State) (ms : List Move) : HostFrame s { s with schedule := ms } :=
  ⟨rfl, sameOut_of_mem rfl rfl rfl rfl⟩

theorem moveAllowed_of_allowedDuringRun {s : State} {m : Move} (hhost : m.fromHost = true)
    (hm : allowedDuringRun s.cfg m) : moveAllowed m s := by
  cases m with
  | host x =>
    cases x with
    | read => exact hm
    | write a w v =>
      obtain ⟨hw, ha, hp, hne⟩ := hm
      exact ⟨hw, ha, hp, fun hctrl => absurd hctrl hne⟩
  | core | transport | timer | reset => exact absurd hhost (by simp [Move.fromHost])

theorem MoveEffect.hostFrame {s t : State} {m : Move} (hm : MoveEffect s m t) (h : Invariant s)
    (hhost : m.fromHost = true) (hallowed : allowedDuringRun s.cfg m) : HostFrame s t := by
  cases hm with
  | nothing | noted | argument => exact ⟨rfl, sameOut_of_mem rfl rfl rfl rfl⟩
  | color a v j hp => exact ⟨rfl, writeColor_sameOut h (lt_ledCount_of_placeAt_color hp) _⟩
  | illegal | command =>
    obtain ⟨-, -, -, hne⟩ := hallowed
    exact absurd rfl hne
  | fillIssued | offIssued | answered | waited | reset => exact absurd hhost (by simp [Move.fromHost])

theorem Invariant.host_move {s : State} (h : Invariant s) {m : Move} (hhost : m.fromHost = true)
    (hallowed : allowedDuringRun s.cfg m) : ∃ t, moveStep m s = .next t ∧ HostFrame s t := by
  obtain ⟨t, ht⟩ := h.control.moveStep_next (moveAllowed_of_allowedDuringRun hhost hallowed)
  exact ⟨t, ht, (moveStep_effect ht).hostFrame h hhost hallowed⟩

/-! One move of a run. -/

@[simp] theorem issueFrame_schedule (buf : List Byte) (s : State) : (s.issueFrame buf).schedule = s.schedule := rfl

theorem MoveEffect.schedule {s t : State} {m : Move} (hm : MoveEffect s m t) : t.schedule = s.schedule := by
  cases hm with
  | nothing | noted | argument | color | illegal | reset => rfl
  | fillIssued | offIssued => exact issueFrame_schedule _ s
  | command _ _ _ _ _ he => exact (congrArg State.schedule he.frame :)
  | answered _ _ _ _ _ ht => exact (congrArg State.schedule ht.frame :)
  | waited _ _ _ _ ht => exact (congrArg State.schedule ht.frame :)

theorem run_succ_of_step {M : Host.Core} {s t : M.State} (h : M.step s = .next t) (n : Nat) :
    M.run (n + 1) s = M.run n t := by
  rw [Host.Core.run, h]

/-- The first move is made, and the run goes on from where it leads, still under the invariant. -/
theorem Invariant.run_move {s t : State} (h : Invariant s) {m : Move} {ms : List Move} (hs : s.schedule = m :: ms)
    (hm : moveStep m { s with schedule := ms } = .next t) :
    (∀ n, core.run (n + 1) s = core.run n t) ∧ Invariant t ∧ t.cfg = s.cfg ∧ t.schedule = ms := by
  have he := moveStep_effect hm
  exact ⟨run_succ_of_step (M := core) ((step_of_schedule hs).trans hm), he.invariant (h.congr rfl), he.cfg, he.schedule⟩

/-- An access of the Host is made, and what it cannot change still holds. -/
theorem Invariant.run_host {P : State → Prop} (hP : HostStable P) {s : State} (h : Invariant s) (hp : P s) {m : Move}
    {ms : List Move} (hs : s.schedule = m :: ms) (hhost : m.fromHost = true) (hallowed : allowedDuringRun s.cfg m) :
    ∃ t, (∀ n, core.run (n + 1) s = core.run n t) ∧ Invariant t ∧ P t ∧ t.cfg = s.cfg ∧ t.schedule = ms := by
  have hsched : Invariant { s with schedule := ms } := h.congr rfl
  obtain ⟨t, hm, hframe⟩ := hsched.host_move hhost hallowed
  obtain ⟨hrun, ht, hcfg, hms⟩ := h.run_move hs hm
  exact ⟨t, hrun, ht, hP _ _ hframe (hP _ _ (hostFrame_schedule s ms) hp), hcfg, hms⟩

/-! Interleaving. -/

/-- From a state with `P`, moves `ms` that are the moves `l` and, anywhere between them, accesses of the Host, lead to a
state with `Q`. -/
def Interleaves (P : State → Prop) (l : List Move) (Q : State → Prop) : Prop :=
  ∀ (s : State) (ms rest : List Move), Invariant s → P s → s.schedule = ms ++ rest →
    (∀ m ∈ ms, allowedDuringRun s.cfg m) → ms.filter (fun m => !m.fromHost) = l →
    ∃ u : State, core.run ms.length s = .next u ∧ Q u ∧ u.schedule = rest

/-- The Host's accesses alone lead nowhere. -/
theorem Interleaves.nil {P : State → Prop} (hP : HostStable P) : Interleaves P [] P := by
  intro s ms rest h hp hs hallowed hfilter
  have hhost : ∀ m ∈ ms, m.fromHost = true := by simpa using hfilter
  clear hfilter
  induction ms generalizing s with
  | nil => exact ⟨s, rfl, hp, hs⟩
  | cons m ms ih =>
    obtain ⟨hfirst, hallowed⟩ := List.forall_mem_cons.mp hallowed
    obtain ⟨hhost, hhosts⟩ := List.forall_mem_cons.mp hhost
    obtain ⟨t, hrun, ht, hpt, hcfg, hst⟩ := h.run_host hP hp hs hhost hfirst
    rw [List.length_cons, hrun]
    exact ih t ht hpt hst (hcfg ▸ hallowed) hhosts

/-- The Host's accesses before the next move of another agent change nothing that the move rests on. -/
theorem Interleaves.cons {P R Q : State → Prop} {m : Move} {l : List Move} (hP : HostStable P)
    (hmove : ∀ s, P s → ∃ t, moveStep m s = .next t ∧ R t) (hrest : Interleaves R l Q) :
    Interleaves P (m :: l) Q := by
  intro s ms rest h hp hs hallowed hfilter
  induction ms generalizing s with
  | nil => cases hfilter
  | cons x ms ih =>
    obtain ⟨hfirst, hallowed⟩ := List.forall_mem_cons.mp hallowed
    rw [List.length_cons]
    cases hhost : x.fromHost with
    | true =>
      obtain ⟨t, hrun, ht, hpt, hcfg, hst⟩ := h.run_host hP hp hs hhost hfirst
      rw [hrun]
      exact ih t ht hpt hst (hcfg ▸ hallowed) (by simpa [List.filter_cons, hhost] using hfilter)
    | false =>
      obtain ⟨rfl, hothers⟩ : x = m ∧ ms.filter (fun m => !m.fromHost) = l := by
        simpa [List.filter_cons, hhost] using hfilter
      obtain ⟨t, hm, hrt⟩ := hmove _ (hP _ _ (hostFrame_schedule s (ms ++ rest)) hp)
      obtain ⟨hrun, ht, hcfg, hst⟩ := h.run_move hs hm
      rw [hrun]
      exact hrest t ms rest ht hrt hst (hcfg ▸ hallowed) hothers

end Sys2Proof.Machine
end

section
/-! A run from its acceptance to its last answer (41_animator.md R135, R136): where it stands at each transfer, and that
the moves of the Core, the Transport and the Timer lead from one such place to the next. -/

namespace Sys2Proof.Machine

/-! Where a run stands. `s₀` is the state that accepted RUN, and `g` numbers its transfers from 0. -/

/-- AS while transfer number `g` is issued and sent. -/
def slotAnim (c : Cfg) (g : Nat) : Animator :=
  if g % (c.ledCount + 1) < c.ledCount then .filling else .allOff

/-- What holds from the issue of transfer number `g` to the end of the wait after it. -/
structure DuringTransfer (s₀ : State) (g : Nat) (s : State) : Prop where
  cfg : s.cfg = s₀.cfg
  lc : s.lc = .configured
  curOp : s.curOp = some .run
  runDelay : s.runDelay = s₀.delay
  runReps : s.runReps = s₀.reps
  pos : s.pos.toNat = min (g % (s₀.cfg.ledCount + 1)) (s₀.cfg.ledCount - 1)

/-- The Core owes transfer number `g`. -/
structure Issuing (s₀ : State) (g : Nat) (s : State) : Prop extends DuringTransfer s₀ g s where
  anim : s.anim = slotAnim s₀.cfg g
  ph : s.ph = .issue
  repCount : s.repCount.toNat = g / (s₀.cfg.ledCount + 1)
  xferCount : s.xferCount = s₀.xferCount + BitVec.ofNat 32 g
  hist : s.hist = s₀.hist ++ sentHist s₀.cfg s₀.delay g

/-- The Transport owes the answer to transfer number `g`. -/
structure Sent (s₀ : State) (g : Nat) (s : State) : Prop extends DuringTransfer s₀ g s where
  anim : s.anim = slotAnim s₀.cfg g
  ph : s.ph = .xferWait
  pending : s.pending = some (.xfer (runBuffer s₀.cfg g))
  repCount : s.repCount.toNat = g / (s₀.cfg.ledCount + 1)
  xferCount : s.xferCount = s₀.xferCount + BitVec.ofNat 32 (g + 1)
  hist : s.hist = s₀.hist ++ sentHist s₀.cfg s₀.delay g ++ [⟨.xfer (runBuffer s₀.cfg g), none⟩]
  outBytes : s.outBytes = runBuffer s₀.cfg g

/-- The Timer owes the end of the wait after transfer number `g`. -/
structure Waiting (s₀ : State) (g : Nat) (s : State) : Prop extends DuringTransfer s₀ g s where
  fills : g % (s₀.cfg.ledCount + 1) < s₀.cfg.ledCount → s.anim = .filling ∧ s.ph = .delayWait
  pauses : ¬ g % (s₀.cfg.ledCount + 1) < s₀.cfg.ledCount → s.anim = .paused ∧ s.ph = .pauseWait
  pending : s.pending = some (.wait (runWait s₀.cfg s₀.delay g))
  repCount : s.repCount.toNat = (g + 1) / (s₀.cfg.ledCount + 1)
  xferCount : s.xferCount = s₀.xferCount + BitVec.ofNat 32 (g + 1)
  hist : s.hist = s₀.hist ++ endedHist s₀.cfg s₀.delay g .ok ++ [⟨.wait (runWait s₀.cfg s₀.delay g), none⟩]

/-- Transfer number `k` was the last, answered `r`; the run ended in AS = `a` with code `e` and REP_COUNT = `n`. -/
structure Ended (s₀ : State) (k : Nat) (r : Response) (a : Animator) (e : ErrCode) (n : Nat) (s : State) : Prop where
  lc : s.lc = .configured
  busy : s.busy = false
  pending : s.pending = none
  anim : s.anim = a
  err : s.err = e
  pos : s.pos.toNat = min (k % (s₀.cfg.ledCount + 1)) (s₀.cfg.ledCount - 1)
  repCount : s.repCount.toNat = n
  xferCount : s.xferCount = s₀.xferCount + BitVec.ofNat 32 (k + 1)
  hist : s.hist = s₀.hist ++ endedHist s₀.cfg s₀.delay k r
  outBytes : s.outBytes = runBuffer s₀.cfg k

/-! The Host moves the run nowhere. -/

section
variable {s₀ : State} {g : Nat}

theorem DuringTransfer.hostStable : HostStable (DuringTransfer s₀ g) := by
  rintro s t ⟨ht, -⟩ h
  rw [ht]
  exact ⟨h.cfg, h.lc, h.curOp, h.runDelay, h.runReps, h.pos⟩

theorem Issuing.hostStable : HostStable (Issuing s₀ g) := by
  intro s t hframe h
  have hduring := DuringTransfer.hostStable s t hframe h.toDuringTransfer
  rw [hframe.fields] at hduring ⊢
  exact ⟨hduring, h.anim, h.ph, h.repCount, h.xferCount, h.hist⟩

theorem Sent.hostStable : HostStable (Sent s₀ g) := by
  intro s t hframe h
  have hduring := DuringTransfer.hostStable s t hframe h.toDuringTransfer
  have hout := hframe.out.outBytes.trans h.outBytes
  rw [hframe.fields] at hduring hout ⊢
  exact ⟨hduring, h.anim, h.ph, h.pending, h.repCount, h.xferCount, h.hist, hout⟩

theorem Waiting.hostStable : HostStable (Waiting s₀ g) := by
  intro s t hframe h
  have hduring := DuringTransfer.hostStable s t hframe h.toDuringTransfer
  rw [hframe.fields] at hduring ⊢
  exact ⟨hduring, h.fills, h.pauses, h.pending, h.repCount, h.xferCount, h.hist⟩

theorem Ended.hostStable {r : Response} {a : Animator} {e : ErrCode} {n : Nat} :
    HostStable (Ended s₀ g r a e n) := by
  intro s t hframe h
  have hout := hframe.out.outBytes.trans h.outBytes
  rw [hframe.fields] at hout ⊢
  exact ⟨h.lc, h.busy, h.pending, h.anim, h.err, h.pos, h.repCount, h.xferCount, h.hist, hout⟩

/-! The Core issues transfer number `g`. -/

theorem slotAnim_of_lt {c : Cfg} (h : g % (c.ledCount + 1) < c.ledCount) : slotAnim c g = .filling := if_pos h

theorem slotAnim_of_not_lt {c : Cfg} (h : ¬ g % (c.ledCount + 1) < c.ledCount) : slotAnim c g = .allOff := if_neg h

theorem slotAnim_eq_or (c : Cfg) (g : Nat) : slotAnim c g = .filling ∨ slotAnim c g = .allOff := by
  unfold slotAnim
  split
  · exact .inl rfl
  · exact .inr rfl

variable {s : State}

theorem DuringTransfer.pos_of_lt (h : DuringTransfer s₀ g s) (hslot : g % (s₀.cfg.ledCount + 1) < s₀.cfg.ledCount) :
    s.pos.toNat = g % (s₀.cfg.ledCount + 1) := by
  rw [h.pos, Nat.min_eq_left (by omega)]

theorem Issuing.core_move (h : Issuing s₀ g s) : moveStep .core s = .next (s.issueFrame (runBuffer s₀.cfg g)) := by
  by_cases hslot : g % (s₀.cfg.ledCount + 1) < s₀.cfg.ledCount
  · have hpos := h.pos_of_lt hslot
    rw [core_of_filling h.curOp h.ph (h.anim.trans (slotAnim_of_lt hslot)), runBuffer_of_lt hslot, h.cfg, hpos]
  · rw [core_of_allOff h.curOp h.ph (h.anim.trans (slotAnim_of_not_lt hslot)), runBuffer_of_not_lt hslot, h.cfg]

theorem Issuing.sent (h : Issuing s₀ g s) (hwf : s₀.cfg.wf = true) :
    Sent s₀ g (s.issueFrame (runBuffer s₀.cfg g)) where
  cfg := (issueFrame_cfg _ s).trans h.cfg
  lc := (issueFrame_lc _ s).trans h.lc
  curOp := (issueFrame_curOp _ s).trans h.curOp
  runDelay := (issueFrame_runDelay _ s).trans h.runDelay
  runReps := (issueFrame_runReps _ s).trans h.runReps
  pos := by rw [issueFrame_pos, h.pos]
  anim := (issueFrame_anim _ s).trans h.anim
  ph := issueFrame_ph _ s
  pending := issueFrame_pending _ s
  repCount := by rw [issueFrame_repCount, h.repCount]
  xferCount := by rw [issueFrame_xferCount, h.xferCount, BitVec.ofNat_add, BitVec.add_assoc]
  hist := by rw [issueFrame_hist, h.hist]
  outBytes := issueFrame_outBytes (runBuffer_length_lt hwf g) s

/-! The Transport answers transfer number `g`. -/

section
variable (h : Sent s₀ g s)
include h

/-- The repetition in progress is one of those asked for, so counting it does not wrap. -/
theorem Sent.repCount_succ (hg : g < s₀.reps.toNat * (s₀.cfg.ledCount + 1)) :
    (s.repCount + 1#32).toNat = g / (s₀.cfg.ledCount + 1) + 1 := by
  have hlt : s.repCount.toNat < s₀.reps.toNat := by
    rw [h.repCount]
    exact Nat.div_lt_of_lt_mul (by rwa [Nat.mul_comm])
  rw [← h.repCount]
  exact toNat_succ_of_lt hlt

theorem Sent.ok_of_more (hg : g + 1 < s₀.reps.toNat * (s₀.cfg.ledCount + 1)) :
    ∃ t, moveStep (.transport .ok) s = .next t ∧ Waiting s₀ g t := by
  by_cases hslot : g % (s₀.cfg.ledCount + 1) < s₀.cfg.ledCount
  · have ha := h.anim.trans (slotAnim_of_lt hslot)
    refine ⟨_, transport_ok_of_filling h.curOp h.ph h.pending h.hist ha, ?_⟩
    refine ⟨⟨h.cfg, h.lc, h.curOp, h.runDelay, h.runReps, h.pos⟩, fun _ => ⟨ha, rfl⟩, fun hn => absurd hslot hn,
      ?_, ?_, h.xferCount, ?_⟩
    · rw [runWait_of_lt hslot, h.runDelay]
    · rw [(slot_succ_of_lt hslot).1]
      exact h.repCount
    · rw [runWait_of_lt hslot, h.runDelay]
      simp [endedHist]
  · have hcount := h.repCount_succ (Nat.lt_of_succ_lt hg)
    have hmore : (s.repCount + 1#32).toNat < s.runReps.toNat := by
      rw [hcount, h.runReps, ← (slot_succ_of_not_lt hslot).1]
      exact Nat.div_lt_of_lt_mul (by rwa [Nat.mul_comm])
    have ha := h.anim.trans (slotAnim_of_not_lt hslot)
    refine ⟨_, transport_ok_of_allOff_more h.curOp h.ph h.pending h.hist ha hmore, ?_⟩
    refine ⟨⟨h.cfg, h.lc, h.curOp, h.runDelay, h.runReps, h.pos⟩, fun hn => absurd hn hslot, fun _ => ⟨rfl, rfl⟩,
      ?_, ?_, h.xferCount, ?_⟩
    · rw [runWait_of_not_lt hslot, h.cfg]
    · rw [(slot_succ_of_not_lt hslot).1]
      exact hcount
    · rw [runWait_of_not_lt hslot, h.cfg]
      simp [endedHist]

/-- The last transfer of the last repetition is answered OK (R131). -/
theorem Sent.ok_of_last (hg : g + 1 = s₀.reps.toNat * (s₀.cfg.ledCount + 1)) :
    ∃ t, moveStep (.transport .ok) s = .next t ∧ Ended s₀ g .ok .done .ok s₀.reps.toNat t := by
  obtain ⟨hrep, hslot⟩ := slot_of_last hg
  have hoff : ¬ g % (s₀.cfg.ledCount + 1) < s₀.cfg.ledCount := by omega
  have hcount : (s.repCount + 1#32).toNat = s₀.reps.toNat := (h.repCount_succ (by omega)).trans hrep
  have ha := h.anim.trans (slotAnim_of_not_lt hoff)
  refine ⟨_, transport_ok_of_allOff_last h.curOp h.ph h.pending h.hist ha ?_, ?_⟩
  · rw [hcount, h.runReps]
  · exact ⟨h.lc, rfl, rfl, rfl, rfl, h.pos, hcount, h.xferCount, List.append_assoc _ _ _, h.outBytes⟩

/-- A transfer is answered IO_ERROR (R127, R133). -/
theorem Sent.failed :
    ∃ t, moveStep (.transport .ioError) s = .next t ∧
      Ended s₀ g .ioError .aborted .transportIoError (g / (s₀.cfg.ledCount + 1)) t := by
  refine ⟨_, transport_ioError_of_run h.curOp h.ph h.pending h.hist (h.anim ▸ slotAnim_eq_or s₀.cfg g), ?_⟩
  exact ⟨h.lc, rfl, rfl, rfl, rfl, h.pos, h.repCount, h.xferCount, List.append_assoc _ _ _, h.outBytes⟩

end

/-! The Timer ends the wait after transfer number `g`. -/

theorem Waiting.hist_succ (s₀ : State) (g : Nat) :
    s₀.hist ++ endedHist s₀.cfg s₀.delay g .ok ++ [⟨.wait (runWait s₀.cfg s₀.delay g), some .done⟩] =
      s₀.hist ++ sentHist s₀.cfg s₀.delay (g + 1) := by
  rw [sentHist_succ, endedHist, List.append_assoc]

theorem Waiting.timer_move (h : Waiting s₀ g s) (hwf : s₀.cfg.wf = true) :
    ∃ t, moveStep .timer s = .next t ∧ Issuing s₀ (g + 1) t := by
  obtain ⟨hmin, hmax, -⟩ := (Cfg.wf_iff _).mp hwf
  have hhist := Waiting.hist_succ s₀ g
  by_cases hslot : g % (s₀.cfg.ledCount + 1) < s₀.cfg.ledCount
  · obtain ⟨ha, hp⟩ := h.fills hslot
    have hnext := (slot_succ_of_lt hslot).2
    have hpos := h.pos_of_lt hslot
    by_cases hlt : g % (s₀.cfg.ledCount + 1) + 1 < s₀.cfg.ledCount
    · refine ⟨_, timer_of_filling_next h.curOp h.pending h.hist ha hp (by rwa [h.cfg, hpos]), ?_⟩
      refine ⟨⟨h.cfg, h.lc, h.curOp, h.runDelay, h.runReps, ?_⟩, ?_, rfl, h.repCount, h.xferCount, hhist⟩
      · have hsucc : (s.pos + 1#32).toNat = s.pos.toNat + 1 :=
          toNat_succ_of_lt (b := BitVec.ofNat 32 s₀.cfg.ledCount) (by simp; omega)
        show (s.pos + 1#32).toNat = _
        omega
      · exact ha.trans (slotAnim_of_lt (by omega)).symm
    · refine ⟨_, timer_of_filling_last h.curOp h.pending h.hist ha hp (by rw [h.cfg]; omega), ?_⟩
      refine ⟨⟨h.cfg, h.lc, h.curOp, h.runDelay, h.runReps, ?_⟩, ?_, rfl, h.repCount, h.xferCount, hhist⟩
      · show s.pos.toNat = _
        omega
      · exact (slotAnim_of_not_lt (by omega)).symm
  · obtain ⟨ha, hp⟩ := h.pauses hslot
    have hnext := (slot_succ_of_not_lt hslot).2
    refine ⟨_, timer_of_paused h.curOp h.pending h.hist ha hp, ?_⟩
    refine ⟨⟨h.cfg, h.lc, h.curOp, h.runDelay, h.runReps, ?_⟩, ?_, rfl, h.repCount, h.xferCount, hhist⟩
    · rw [hnext, Nat.zero_min]
      rfl
    · exact (slotAnim_of_lt (by omega)).symm

end

/-! The run. -/

theorem startRun_issuing {s : State} (hl : s.lc = .configured) (hn : 0 < s.cfg.ledCount) : Issuing s 0 s.startRun where
  cfg := rfl
  lc := hl
  curOp := rfl
  runDelay := rfl
  runReps := rfl
  pos := by simp [State.startRun]
  anim := (slotAnim_of_lt (by rwa [Nat.zero_mod])).symm
  ph := rfl
  repCount := by simp [State.startRun]
  xferCount := by simp [State.startRun]
  hist := (List.append_nil _).symm

theorem runMoves_succ (j : Nat) (r : Response) :
    runMoves (j + 1) r = .core :: .transport .ok :: .timer :: runMoves j r := rfl

/-- From the issue of transfer number `g`, through `j` more transfers and their waits, to the answer of the last. -/
theorem interleaves_runMoves {s₀ : State} {k : Nat} {r : Response} {E : State → Prop} (hwf : s₀.cfg.wf = true)
    (hk : k < s₀.reps.toNat * (s₀.cfg.ledCount + 1)) (hE : HostStable E)
    (hend : ∀ s, Sent s₀ k s → ∃ t, moveStep (.transport r) s = .next t ∧ E t) :
    ∀ j g, g + j = k → Interleaves (Issuing s₀ g) (runMoves j r) E := by
  intro j
  induction j with
  | zero =>
    rintro g rfl
    refine .cons Issuing.hostStable (fun s h => ⟨_, h.core_move, h.sent hwf⟩) ?_
    exact .cons Sent.hostStable hend (.nil hE)
  | succ j ih =>
    intro g hg
    rw [runMoves_succ]
    refine .cons Issuing.hostStable (fun s h => ⟨_, h.core_move, h.sent hwf⟩) ?_
    refine .cons Sent.hostStable (fun s h => h.ok_of_more (by omega)) ?_
    exact .cons Waiting.hostStable (fun s h => h.timer_move hwf) (ih (g + 1) (by omega))

/-- RUN is accepted, and the moves of a run follow it, with the Host's between them. -/
theorem run_of_runMoves {s : State} {k : Nat} {r : Response} {ms : List Move} {E : State → Prop} (h : Invariant s)
    (hb : s.busy = false) (hl : s.lc = .configured) (hk : k < s.reps.toNat * (s.cfg.ledCount + 1))
    (hallowed : ∀ m ∈ ms, allowedDuringRun s.cfg m) (hms : ms.filter (fun m => !m.fromHost) = runMoves k r)
    (hE : HostStable E) (hend : ∀ u, Sent s k u → ∃ t, moveStep (.transport r) u = .next t ∧ E t) (rest : List Move) :
    ∃ t u : State, exec .run s = .next t ∧ core.run ms.length { t with schedule := ms ++ rest } = .next u ∧ E u ∧
      u.schedule = rest := by
  have hreps : s.reps ≠ 0#32 := by
    intro e
    simp [e] at hk
  have hrun := exec_run_of_reps hl hreps
  have ht : Invariant s.startRun := (exec_effect hrun).invariant h hb
  have hfirst : Issuing s 0 { s.startRun with schedule := ms ++ rest } :=
    Issuing.hostStable _ _ (hostFrame_schedule _ _) (startRun_issuing hl h.ledCount_pos)
  have hinterleaves := interleaves_runMoves h.cfgLegal hk hE hend k 0 (Nat.zero_add k)
  obtain ⟨u, hu⟩ := hinterleaves _ ms rest (ht.congr rfl) hfirst rfl hallowed hms
  exact ⟨_, u, hrun, hu⟩

theorem outBytes_length (s : State) : s.outBytes.length = s.outLen.toNat := by simp [State.outBytes]

/-- Settles O52: the last of the run's transfers, all answered OK, ends it in DONE, and HIST by transfers is HIST by
repetitions. -/
theorem successfulRunClosedForm : Obligations.SuccessfulRunClosedForm := by
  intro s ms rest h hb hl hreps hallowed hms n r
  have hr : 0 < r := Nat.pos_of_ne_zero fun e => hreps (BitVec.eq_of_toNat_eq e)
  obtain ⟨m, hm⟩ : ∃ m, r = m + 1 := Nat.exists_eq_succ_of_ne_zero hr.ne'
  have hk : m * (n + 1) + n + 1 = r * (n + 1) := by rw [hm]; ring
  have hmoves : ms.filter (fun m => !m.fromHost) = runMoves (m * (n + 1) + n) .ok := by
    rw [hms, show s.reps.toNat * (s.cfg.ledCount + 1) = _ from hk.symm]
    rfl
  obtain ⟨t, u, hrun, hms', hu, hrest⟩ := run_of_runMoves h hb hl (Nat.lt_of_succ_le hk.le) hallowed hmoves
    Ended.hostStable (fun v hv => hv.ok_of_last hk) rest
  obtain ⟨-, hslot⟩ := slot_of_last hk
  have hout : u.outBytes = offBuffer s.cfg := hu.outBytes.trans (runBuffer_of_not_lt (slot_of_off s.cfg m))
  refine ⟨t, u, hrun, hms', ?_, bytesSent_runHist _ _ _, hu.anim, hu.err, BitVec.eq_of_toNat_eq hu.repCount, ?_, hout,
    ?_, hu.busy, ?_, hu.lc, hrest⟩
  · rw [hu.hist, hm, runHist_eq_endedHist]
  · rw [hu.pos, hslot]
    omega
  · rw [← outBytes_length, hout, offBuffer_length]
  · rw [hu.xferCount, hk]

/-- Settles O53: transfer number k is the last, and its requests begin those of the whole run. -/
theorem failedRunClosedForm : Obligations.FailedRunClosedForm := by
  intro s k ms rest h hb hl hk hallowed hms n
  obtain ⟨t, u, hrun, hmoves, hu, hrest⟩ := run_of_runMoves h hb hl hk hallowed hms Ended.hostStable
    (fun v hv => hv.failed) rest
  have hprefix : (failedRunHist s.cfg s.delay k).map (·.request) <+:
      (runHist s.cfg s.delay s.reps.toNat).map (·.request) := by
    obtain ⟨m, hm⟩ : ∃ m, s.reps.toNat = m + 1 := Nat.exists_eq_succ_of_ne_zero (by rintro e; simp [e] at hk)
    have hle : k ≤ m * (n + 1) + n := by
      have hlt : k < (m + 1) * (n + 1) := hm ▸ hk
      rw [Nat.succ_mul] at hlt
      omega
    rw [hm, failedRunHist_eq, runHist_eq_endedHist]
    exact endedHist_requests_prefix _ _ hle _ _
  exact ⟨t, u, hrun, hmoves, hu.hist, xferCountIn_endedHist _ _ k .ioError, hprefix, hu.anim, hu.err, hu.busy,
    hu.pending, hu.xferCount, hu.lc, hu.repCount, hu.pos, hu.outBytes, hrest⟩

end Sys2Proof.Machine
end

section
/-! NOP, OPEN, CONFIGURE, TRANSMIT and SHUTDOWN (42_transport_lifecycle.md R150 to R156): one equation for each branch
of a command's acceptance and of its continuation, one rule for the answer that ends a command, and the boot sequence
(70_reset_and_hazards.md R192) made of them. -/

namespace Sys2Proof.Machine

/-- Settles O6: NOP is `setErr`, by definition. -/
theorem nopWritesOnlyErr : Obligations.NopWritesOnlyErr := ⟨rfl, fun _ => rfl⟩

/-! Acceptance. -/

section
variable {s : State}

theorem exec_open_of_unopened (hl : s.lc = .unopened) :
    exec .openTransport s = .next ((s.accept .openTransport).request (.openT s.cfg.bus s.cfg.device)) := if_pos hl

theorem exec_configure_of_opened (hl : s.lc = .opened) :
    exec .configure s = .next ((s.accept .configure).request (.configureT s.cfg.clockHz s.cfg.spiMode)) := if_pos hl

theorem exec_transmit_of_configured (hl : s.lc = .configured) :
    exec .transmit s = .next ((s.accept .transmit).transfer s.outBytes) := if_pos hl

theorem exec_shutdown_of_not_held (hl : s.lc = .unopened ∨ s.lc = .startupFailed) :
    exec .shutdown s = .next ({ s with lc := .released }.setErr .ok) := by
  obtain hl | hl := hl <;> simp only [exec, execShutdown, hl]

/-! Continuation. -/

theorem continuation_openT_ok (b d : Word) (hc : s.curOp = some .openTransport) :
    continuation (.openT b d) .ok s = some ({ s with lc := .opened }.complete .ok) := if_pos hc

theorem continuation_openT_unavailable (b d : Word) (hc : s.curOp = some .openTransport) :
    continuation (.openT b d) .unavailable s = some ({ s with lc := .startupFailed }.complete .transportUnavailable) :=
  if_pos hc

theorem continuation_configureT (k m : Word) (r : Response) (hc : s.curOp = some .configure) :
    continuation (.configureT k m) r s = some ({ s with lc := .configured }.complete .ok) := if_pos hc

theorem continuation_xfer_ok_of_transmit (bs : List Byte) (hc : s.curOp = some .transmit) :
    continuation (.xfer bs) .ok s = some (s.complete .ok) := if_pos hc

theorem continuation_xfer_ioError_of_transmit (bs : List Byte) (hc : s.curOp = some .transmit) :
    continuation (.xfer bs) .ioError s = some (s.complete .transportIoError) := by
  rw [← takeError_ioError_other s (by simp [hc])]
  exact if_pos hc

theorem continuation_closeT (r : Response) (hc : s.curOp = some .shutdown) :
    continuation .closeT r s = some ({ s with lc := .released }.complete .ok) := if_pos hc

end

/-! The answer. -/

section
variable {s : State} {q : PortRequest} {r : Response} (hq : s.pending = some q) (hw : ∀ d, q ≠ .wait d)
include hq hw

theorem transport_of_listed (hr : r ∈ q.listed) {t : State} (ht : continuation q r (s.answer r) = some t) :
    moveStep (.transport r) s = .next t := by
  cases q with
  | wait d => exact absurd rfl (hw d)
  | openT | configureT | xfer | closeT => simp only [moveStep, transportStep, hq, if_pos hr, ht]

theorem transport_of_not_listed (hr : r ∉ q.listed) : moveStep (.transport r) s = .refused .responseNotListed := by
  cases q with
  | wait d => exact absurd rfl (hw d)
  | openT | configureT | xfer | closeT => simp only [moveStep, transportStep, hq, if_neg hr]

/-- Outside a run, where PH is NONE already, the answer that ends a command writes LC, ERR and HIST, no more. -/
theorem step_of_ending_answer (hr : r ∈ q.listed) {h : List HistEntry} {rest : List Move} (hp : s.ph = .none)
    (hh : s.hist = h ++ [⟨q, none⟩]) (hs : s.schedule = .transport r :: rest) {l : Lifecycle} {c : ErrCode}
    (hk : continuation q r (State.answer r { s with schedule := rest }) =
      some (State.complete c { State.answer r { s with schedule := rest } with lc := l })) :
    step s = .next { s with
      lc := l, busy := false, curOp := none, pending := none, err := c, hist := h ++ [⟨q, some r⟩]
      schedule := rest } := by
  rw [step_of_schedule hs, transport_of_listed (s := { s with schedule := rest }) hq hw hr hk]
  simp only [State.complete, State.answer, hh, answerLast_append, hp]

end

/-- Settles O7: OPEN is accepted in UNOPENED only, and either response ends it. -/
theorem openFollowsItsRule : Obligations.OpenFollowsItsRule := by
  refine ⟨rfl, fun s => exec_open_of_unopened, fun s hl => if_neg hl,
    fun s h rest b d hc hq hp hh => ⟨fun hs => ?ok, fun hs => ?unavailable⟩⟩
  case ok =>
    exact step_of_ending_answer hq nofun (by simp [PortRequest.listed]) hp hh hs (continuation_openT_ok b d hc)
  case unavailable =>
    exact step_of_ending_answer hq nofun (by simp [PortRequest.listed]) hp hh hs
      (continuation_openT_unavailable b d hc)

/-- Settles O8: CONFIGURE is accepted in OPENED only, and its one response ends it. -/
theorem configureFollowsItsRule : Obligations.ConfigureFollowsItsRule := by
  refine ⟨rfl, fun s => exec_configure_of_opened, fun s hl => if_neg hl, fun s h rest k m hc hq hp hh hs => ?_⟩
  exact step_of_ending_answer hq nofun (by simp [PortRequest.listed]) hp hh hs (continuation_configureT k m .ok hc)

/-- Settles O12: TRANSMIT is accepted in CONFIGURED only, and either response ends it with LC as it was. -/
theorem transmitFollowsItsRule : Obligations.TransmitFollowsItsRule := by
  refine ⟨rfl, fun s => exec_transmit_of_configured, fun s hl => if_neg hl,
    fun s h rest bs hc hq hp hh => ⟨fun hs => ?ok, fun hs => ?ioError⟩⟩
  case ok =>
    exact step_of_ending_answer hq nofun (by simp [PortRequest.listed]) hp hh hs
      (continuation_xfer_ok_of_transmit bs hc)
  case ioError =>
    exact step_of_ending_answer hq nofun (by simp [PortRequest.listed]) hp hh hs
      (continuation_xfer_ioError_of_transmit bs hc)

/-- Settles O14: SHUTDOWN by the lifecycle state that accepts it, and the response that ends it. -/
theorem shutdownFollowsItsRule : Obligations.ShutdownFollowsItsRule := by
  refine ⟨rfl, fun s => exec_shutdown_of_held, fun s => exec_shutdown_of_not_held,
    fun s => exec_shutdown_of_released, fun s h rest hc hq hp hh hs => ?_⟩
  exact step_of_ending_answer hq nofun (by simp [PortRequest.listed]) hp hh hs (continuation_closeT .ok hc)

/-- Settles O15: each clause's responses are those that its request does not list. -/
theorem unlistedResponsesAreRefused : Obligations.UnlistedResponsesAreRefused := by
  intro s rest r q hq hs
  have refused (hw : ∀ d, q ≠ .wait d) (hr : r ∉ q.listed) : step s = .refused .responseNotListed :=
    (step_of_schedule hs).trans (transport_of_not_listed hq hw hr)
  refine ⟨?openT, ?configureT, ?xfer, ?closeT⟩
  case openT =>
    rintro ⟨b, d, rfl⟩ hr
    exact refused nofun (by obtain rfl | rfl := hr <;> simp [PortRequest.listed])
  case configureT =>
    rintro ⟨k, m, rfl⟩ hr
    exact refused nofun (by simpa [PortRequest.listed] using hr)
  case xfer =>
    rintro ⟨bs, rfl⟩ hr
    exact refused nofun (by obtain rfl | rfl := hr <;> simp [PortRequest.listed])
  case closeT =>
    rintro rfl hr
    exact refused nofun (by simpa [PortRequest.listed] using hr)

/-! Boot. -/

/-- A command that issues the request `q`, and at once the answer that ends it: what the two moves leave. -/
theorem run_of_command_answered {s : State} {v : Word} {i : Instr} {q : PortRequest} {r : Response} {rest : List Move}
    {l : Lifecycle} {c : ErrCode} (hs : s.schedule = .host (.write 0x000#22 .w32 v) :: .transport r :: rest)
    (hb : s.busy = false) (hp : s.ph = .none) (hd : decode v = .ok i)
    (he : exec i { s with schedule := .transport r :: rest } =
      .next ((State.accept i { s with schedule := .transport r :: rest }).request q))
    (hw : ∀ d, q ≠ .wait d) (hr : r ∈ q.listed)
    (hk : ∀ u : State, u.curOp = some i → continuation q r u = some ({ u with lc := l }.complete c)) (n : Nat) :
    core.run (n + 2) s = core.run n { s with
      lc := l, busy := false, curOp := none, pending := none, err := c, hist := s.hist ++ [⟨q, some r⟩]
      schedule := rest } := by
  have haccept := (stepRunsTheDecodedCommand s v i _ hs hb hd).trans he
  rw [run_succ_of_step (M := core) haccept]
  exact run_succ_of_step (M := core) (step_of_ending_answer rfl hw hr (by exact hp) rfl rfl (hk _ rfl)) n

/-- Settles O51: OPEN answered OK, then CONFIGURE answered OK. -/
theorem bootSequenceConfigures : Obligations.BootSequenceConfigures :=
  (run_of_command_answered rfl rfl rfl (decode_encode .openTransport) (exec_open_of_unopened rfl) nofun
    (by simp [PortRequest.listed]) (fun _ => continuation_openT_ok _ _) 2).trans
  (run_of_command_answered rfl rfl rfl (decode_encode .configure) (exec_configure_of_opened rfl) nofun
    (by simp [PortRequest.listed]) (fun _ => continuation_configureT _ _ _) 0)

end Sys2Proof.Machine
end

section
/-! The lifecycle transitions (42_transport_lifecycle.md R158). -/

namespace Sys2Proof.Machine

/-! The table. -/

theorem lifecycleMay_refl (l : Lifecycle) : lifecycleMay l l = true := by
  cases l <;> rfl

theorem lifecycleMay_to_released (l : Lifecycle) : lifecycleMay l .released = true := by
  cases l <;> rfl

theorem lifecycleMay_from_released {l : Lifecycle} (h : lifecycleMay .released l = true) : l = .released := by
  cases l <;> simp_all [lifecycleMay]

theorem lifecycleMay_from_startupFailed {l : Lifecycle} (h : lifecycleMay .startupFailed l = true) :
    l = .startupFailed ∨ l = .released := by
  cases l <;> simp_all [lifecycleMay]

/-! LC while a command is in progress. -/

theorem Control.lc_of_opening {s : State} (h : Control s) (hc : s.curOp = some .openTransport) : s.lc = .unopened := by
  cases h with
  | opening _ _ _ _ _ hl => exact hl
  | resting _ hc' | configuring _ hc' | transmitting _ hc' | closing _ hc' | running _ hc' =>
    exact absurd (hc.symm.trans hc') (by decide)

theorem Control.lc_of_configuring {s : State} (h : Control s) (hc : s.curOp = some .configure) : s.lc = .opened := by
  cases h with
  | configuring _ _ _ _ _ hl => exact hl
  | resting _ hc' | opening _ hc' | transmitting _ hc' | closing _ hc' | running _ hc' =>
    exact absurd (hc.symm.trans hc') (by decide)

/-! LC and the moves. -/

theorem ExecEffect.lc {s t : State} {i : Instr} (he : ExecEffect s i t) : t.lc = s.lc ∨ t.lc = .released := by
  cases he with
  | errOnly | made | opening | configuring | transmitting | closing | ranNothing | running => exact .inl rfl
  | released => exact .inr rfl

theorem AnswerEffect.lifecycleMay {s t : State} {r : Response} (ht : AnswerEffect (s.answer r) r t)
    (h : Control s) : lifecycleMay s.lc t.lc = true := by
  cases ht with
  | opened hc | openFailed hc =>
    rw [h.lc_of_opening hc]
    rfl
  | configured hc =>
    rw [h.lc_of_configuring hc]
    rfl
  | closed => exact lifecycleMay_to_released s.lc
  | transmitted | transmitFailed | fillSent | offPaused | runDone | runFailed => exact lifecycleMay_refl s.lc

theorem MoveEffect.lifecycleMay {s t : State} {m : Move} (hm : MoveEffect s m t) (h : Control s)
    (hreset : m ≠ .reset) : lifecycleMay s.lc t.lc = true := by
  cases hm with
  | nothing | noted | argument | color | illegal => exact lifecycleMay_refl s.lc
  | fillIssued | offIssued =>
    rw [issueFrame_lc]
    exact lifecycleMay_refl s.lc
  | command _ _ _ _ _ he =>
    obtain hl | hl := he.lc <;> rw [hl]
    · exact lifecycleMay_refl s.lc
    · exact lifecycleMay_to_released s.lc
  | answered _ _ _ _ _ ht => exact ht.lifecycleMay h
  | waited _ _ _ _ ht =>
    rw [ht.frame]
    exact lifecycleMay_refl s.lc
  | reset => exact absurd rfl hreset

/-- Settles O41: each move's effect on LC is in the table, whose rows for RELEASED and STARTUP_FAILED are the rest. -/
theorem lifecycleTransitionsAreThoseOfTheTable : Obligations.LifecycleTransitionsAreThoseOfTheTable := by
  intro s t hinv hreset hstep
  have hmay : lifecycleMay s.lc t.lc = true := by
    obtain ⟨-, rfl⟩ | ⟨m, rest, hs, hm⟩ := step_effect hstep
    · exact lifecycleMay_refl _
    · exact hm.lifecycleMay (hinv.control.congr rfl) (fun e => hreset rest (e ▸ hs))
  exact ⟨hmay, fun hl => lifecycleMay_from_released (hl ▸ hmay),
    fun hl => lifecycleMay_from_startupFailed (hl ▸ hmay)⟩

end Sys2Proof.Machine
end

section
/-! The checks of a CTRL write in R172's order, the first that fails deciding, and what an IO_ERROR leaves of the strip
(60_exceptions.md R172, R174). -/

namespace Sys2Proof.Machine

/-! The lifecycle check: R158's table by its columns, where a column is not "ok" throughout. -/

section
variable (l : Lifecycle)

@[simp] theorem lifecycleAllows_openTransport : lifecycleAllows l .openTransport = decide (l = .unopened) := by
  cases l <;> rfl

@[simp] theorem lifecycleAllows_configure : lifecycleAllows l .configure = decide (l = .opened) := by
  cases l <;> rfl

@[simp] theorem lifecycleAllows_transmit : lifecycleAllows l .transmit = decide (l = .configured) := by
  cases l <;> rfl

@[simp] theorem lifecycleAllows_run : lifecycleAllows l .run = decide (l = .configured) := by
  cases l <;> rfl

end

/-! A CTRL write, check by check. -/

theorem command_of_busy {s : State} (v : Word) (hb : s.busy = true) : command v s = .refused .ctrlWriteWhileBusy :=
  if_pos hb

/-- A word with MBZ set, or with an OP that is no command's, decodes to no command. -/
theorem exists_decode_error_of_illegal {v : Word} (h : mbzField v ≠ 0#24 ∨ ∀ i, opcode i ≠ opField v) :
    ∃ e, decode v = .error e := by
  cases hd : decode v with
  | error e => exact ⟨e, rfl⟩
  | ok i =>
    obtain ⟨hmbz, hop⟩ := eq_encode_iff.mp (decode_eq_ok_iff_eq_encode.mp hd)
    obtain hne | hne := h
    · exact absurd hmbz hne
    · exact absurd hop.symm (hne i)

section
variable {i : Instr} {s : State}

theorem exec_of_not_allowed (h : lifecycleAllows s.lc i = false) : exec i s = .next (s.setErr .badState) := by
  cases i with
  | openTransport | configure | transmit | run => exact if_neg (by simpa using h)
  | nop | encode | genOff | genFill | shutdown => exact absurd h (by simp [lifecycleAllows])

theorem exec_of_not_argumentOk (h : argumentOk s i = false) : exec i s = .next (s.setErr .badArgument) := by
  cases i with
  | encode => exact exec_encode_of_gt (by simpa [argumentOk] using h)
  | genFill => exact exec_genFill_of_ge (by simpa [argumentOk] using h)
  | nop | openTransport | configure | genOff | transmit | run | shutdown => exact absurd h (by simp [argumentOk])

/-- Command `i` took the state from `s` to `t`, no check failing: it holds BUSY, or it is over with OK. -/
def executed (i : Instr) (s t : State) : Prop :=
  (t.busy = true ∧ t.curOp = some i ∧ t.err = s.err) ∨ (t.busy = false ∧ t.curOp = s.curOp ∧ t.err = .ok)

theorem exec_shutdown_executed (hb : s.busy = false) : ∃ t, exec .shutdown s = .next t ∧ executed .shutdown s t := by
  cases hl : s.lc with
  | opened => exact ⟨_, exec_shutdown_of_held (.inl hl), .inl ⟨rfl, rfl, rfl⟩⟩
  | configured => exact ⟨_, exec_shutdown_of_held (.inr hl), .inl ⟨rfl, rfl, rfl⟩⟩
  | unopened => exact ⟨_, exec_shutdown_of_not_held (.inl hl), .inr ⟨hb, rfl, rfl⟩⟩
  | startupFailed => exact ⟨_, exec_shutdown_of_not_held (.inr hl), .inr ⟨hb, rfl, rfl⟩⟩
  | released => exact ⟨_, exec_shutdown_of_released hl, .inr ⟨hb, rfl, rfl⟩⟩

theorem exec_run_executed (hb : s.busy = false) (hl : s.lc = .configured) :
    ∃ t, exec .run s = .next t ∧ executed .run s t := by
  by_cases hr : s.reps = 0#32
  · exact ⟨_, (if_pos hl).trans (if_pos hr), .inr ⟨hb, rfl, rfl⟩⟩
  · exact ⟨_, exec_run_of_reps hl hr, .inl ⟨rfl, rfl, rfl⟩⟩

theorem exec_executed (hb : s.busy = false) (hl : lifecycleAllows s.lc i = true) (ha : argumentOk s i = true) :
    ∃ t, exec i s = .next t ∧ executed i s t := by
  cases i with
  | nop => exact ⟨_, rfl, .inr ⟨hb, rfl, rfl⟩⟩
  | openTransport => exact ⟨_, exec_open_of_unopened (by simpa using hl), .inl ⟨rfl, rfl, rfl⟩⟩
  | configure => exact ⟨_, exec_configure_of_opened (by simpa using hl), .inl ⟨rfl, rfl, rfl⟩⟩
  | encode => exact ⟨_, exec_encode_of_le (by simpa [argumentOk] using ha), .inr ⟨hb, rfl, rfl⟩⟩
  | genOff => exact ⟨_, exec_genOff s, .inr ⟨hb, rfl, rfl⟩⟩
  | genFill => exact ⟨_, exec_genFill_of_lt (by simpa [argumentOk] using ha), .inr ⟨hb, rfl, rfl⟩⟩
  | transmit => exact ⟨_, exec_transmit_of_configured (by simpa using hl), .inl ⟨rfl, rfl, rfl⟩⟩
  | run => exact exec_run_executed hb (by simpa using hl)
  | shutdown => exact exec_shutdown_executed hb

end

/-- Settles O5: each check that fails has its own equation, and where none fails the command is one of `executed`. -/
theorem checksComeInOrder : Obligations.ChecksComeInOrder := by
  intro s v rest hs
  refine ⟨fun hb => (step_of_ctrlWrite hs).trans (command_of_busy v hb), fun hb hillegal => ?illegal,
    fun i hb hmbz hop => ?legal⟩
  case illegal =>
    obtain ⟨e, hd⟩ := exists_decode_error_of_illegal hillegal
    exact (step_of_ctrlWrite hs).trans (command_of_decode_error hb hd)
  case legal =>
    have hd : decode v = .ok i := decode_eq_ok_iff_eq_encode.mpr (eq_encode_iff.mpr ⟨hmbz, hop.symm⟩)
    rw [stepRunsTheDecodedCommand s v i rest hs hb hd]
    exact ⟨fun hl => exec_of_not_allowed hl, fun _ ha => exec_of_not_argumentOk ha,
      fun hl ha => exec_executed (s := { s with schedule := rest }) hb hl ha⟩

/-! The last good frame. -/

theorem lastGoodFrame_append_ok (h : List HistEntry) (bs : List Byte) :
    lastGoodFrame (h ++ [⟨.xfer bs, some .ok⟩]) = some bs := by
  simp [lastGoodFrame]

/-- Any entry but a transfer answered OK leaves the fold where it was. -/
theorem lastGoodFrame_append_of_ne (h : List HistEntry) {e : HistEntry} (he : ∀ bs, e ≠ ⟨.xfer bs, some .ok⟩) :
    lastGoodFrame (h ++ [e]) = lastGoodFrame h := by
  simp only [lastGoodFrame, List.foldl_append, List.foldl_cons, List.foldl_nil]

/-- What a command does after its answer is in HIST changes no frame. -/
theorem AnswerEffect.lastGoodFrame {s t : State} {r : Response} (ht : AnswerEffect s r t) :
    lastGoodFrame t.hist = lastGoodFrame s.hist := by
  cases ht with
  | opened | openFailed | configured | transmitted | transmitFailed | closed | runDone | runFailed => rfl
  | fillSent | offPaused => exact lastGoodFrame_append_of_ne _ nofun

/-! A transfer is answered. -/

theorem Control.lc_of_xfer {s : State} (h : Control s) {bs : List Byte} (hq : s.pending = some (.xfer bs)) :
    s.lc = .configured := by
  cases h with
  | transmitting _ _ _ _ _ _ hl | running _ _ hl => exact hl
  | resting _ _ hq' | opening _ _ hq' | configuring _ _ hq' | closing _ _ hq' =>
    exact absurd (hq.symm.trans hq') (by simp)

/-- An IO_ERROR is the block's error entry, for a TRANSMIT and at either transfer of a run (R179). -/
theorem eq_takeError_of_continuation_ioError {bs : List Byte} {s t : State}
    (h : continuation (.xfer bs) .ioError s = some t) : t = s.takeError .transportIoError := by
  by_cases hc : s.curOp = some .transmit
  · exact Option.some.inj (h.symm.trans (if_pos hc))
  · obtain ⟨-, hk⟩ := Option.ite_none_right_eq_some.mp ((if_neg hc).symm.trans h)
    obtain ⟨-, -, rfl⟩ | ⟨-, -, rfl⟩ := runAnswered_cases hk <;> rfl

section
variable {s : State} (h : Invariant s) {bs : List Byte} (hq : s.pending = some (.xfer bs))
include h hq

theorem Invariant.xfer_answered {r : Response} (hr : r ∈ (PortRequest.xfer bs).listed) :
    ∃ t, moveStep (.transport r) s = .next t ∧ continuation (.xfer bs) r (s.answer r) = some t := by
  obtain ⟨t, hk⟩ := h.control.continuation_isSome hq nofun r
  exact ⟨t, transport_of_listed hq nofun hr hk, hk⟩

theorem Invariant.hist_of_pending : ∃ l, s.hist = l ++ [⟨.xfer bs, none⟩] := by
  have hanswered := h.answered
  simp only [histAnswered, hq] at hanswered
  obtain ⟨l, hl, -⟩ := hanswered
  exact ⟨l, hl⟩

theorem Invariant.lastGoodFrame_of_ok {t : State} (hk : continuation (.xfer bs) .ok (s.answer .ok) = some t) :
    lastGoodFrame t.hist = some bs := by
  obtain ⟨l, hl⟩ := h.hist_of_pending hq
  rw [(continuation_effect hk).lastGoodFrame, answer_hist, hl, answerLast_append, lastGoodFrame_append_ok]

theorem Invariant.lastGoodFrame_of_ioError :
    lastGoodFrame (answerLast .ioError s.hist) = lastGoodFrame s.hist := by
  obtain ⟨l, hl⟩ := h.hist_of_pending hq
  rw [hl, answerLast_append, lastGoodFrame_append_of_ne l (by simp), lastGoodFrame_append_of_ne l (by simp)]

end

/-- Settles O47: an IO_ERROR is `takeError`, which leaves LC and XFER_COUNT, and only the answer OK adds a frame. -/
theorem ioErrorKeepsTheLastGoodFrame : Obligations.IoErrorKeepsTheLastGoodFrame := by
  intro s bs rest hinv hq
  have h : Invariant { s with schedule := rest } := hinv.congr rfl
  refine ⟨fun hs => ?ioError, fun hs => ?ok⟩
  case ioError =>
    obtain ⟨t, hm, hk⟩ := h.xfer_answered hq (r := .ioError) (by simp [PortRequest.listed])
    obtain rfl := eq_takeError_of_continuation_ioError hk
    exact ⟨_, (step_of_schedule hs).trans hm, h.lastGoodFrame_of_ioError hq, hinv.control.lc_of_xfer hq,
      rfl, rfl, rfl, rfl, fun hc => if_pos hc, fun hc => if_neg hc⟩
  case ok =>
    obtain ⟨t, hm, hk⟩ := h.xfer_answered hq (r := .ok) (by simp [PortRequest.listed])
    exact ⟨t, (step_of_schedule hs).trans hm, h.lastGoodFrame_of_ok hq hk⟩

end Sys2Proof.Machine
end

section
/-! Reset (70_reset_and_hazards.md R190, R191): the values right after construction, and a reset while the block runs. -/

namespace Sys2Proof.Machine

theorem resetWith_statusWord (c : Cfg) : (State.resetWith c).statusWord = 0#32 := by
  simp only [State.statusWord, State.resetWith, Lifecycle.code, Animator.code]
  decide

/-- Settles O49: the fields of `resetWith`, and the two words that read them. -/
theorem resetValues : Obligations.ResetValues :=
  ⟨rfl, fun c => ⟨rfl, rfl, rfl, rfl, rfl, rfl, rfl, rfl, rfl, rfl, rfl, rfl, rfl, rfl, rfl, rfl, rfl, rfl,
    rfl, rfl, resetWith_statusWord c⟩⟩

/-- An answer that arrives with nothing outstanding is ignored (R191). -/
theorem transport_of_pending_none {s : State} (hq : s.pending = none) (r : Response) :
    moveStep (.transport r) s = .next s := by
  simp only [moveStep, transportStep, hq]

/-- Settles O50: the step is `resetAgain`, which leaves nothing outstanding for an answer to reach. -/
theorem resetDropsTheOutstandingRequest : Obligations.ResetDropsTheOutstandingRequest := by
  intro s rest hs
  refine ⟨_, step_of_schedule hs, rfl, rfl, rfl, Nat.succ_ne_self _, Nat.succ_ne_self _, fun r rest' => ?_⟩
  exact (step_of_schedule rfl).trans (transport_of_pending_none rfl r)

end Sys2Proof.Machine
end

section
/-! A command in progress that nobody serves hangs, and one that the ports and the Core go on serving ends
(70_reset_and_hazards.md R202). -/

namespace Sys2Proof.Machine

/-! A move that does not serve the command. -/

theorem MoveEffect.eq_of_not_serves {s t : State} {m : Move} (hm : MoveEffect s m t) (hreset : m ≠ .reset)
    (hserves : ¬ serves m s) (hhost : m.fromHost = false) : t = s := by
  cases hm with
  | nothing => rfl
  | noted | argument | color | illegal | command => exact absurd hhost (by simp [Move.fromHost])
  | fillIssued hc hp | offIssued hc hp => exact absurd ⟨hc, hp⟩ hserves
  | answered _ q _ hq hw => exact absurd ⟨q, hq, hw⟩ hserves
  | waited d _ hq => exact absurd ⟨d, hq⟩ hserves
  | reset => exact absurd rfl hreset

theorem MoveEffect.hostFrame_of_busy {s t : State} {m : Move} (hm : MoveEffect s m t) (h : Invariant s)
    (hb : s.busy = true) (hhost : m.fromHost = true) : HostFrame s t := by
  cases hm with
  | nothing | noted | argument => exact ⟨rfl, sameOut_of_mem rfl rfl rfl rfl⟩
  | color a v j hp => exact ⟨rfl, writeColor_sameOut h (lt_ledCount_of_placeAt_color hp) _⟩
  | illegal _ hb' | command _ _ _ hb' => exact absurd (hb'.symm.trans hb) (by decide)
  | fillIssued | offIssued | answered | waited | reset => exact absurd hhost (by simp [Move.fromHost])

theorem MoveEffect.hostFrame_of_not_serves {s t : State} {m : Move} (hm : MoveEffect s m t) (h : Invariant s)
    (hb : s.busy = true) (hreset : m ≠ .reset) (hserves : ¬ serves m s) : HostFrame s t := by
  cases hhost : m.fromHost with
  | true => exact hm.hostFrame_of_busy h hb hhost
  | false =>
    obtain rfl := hm.eq_of_not_serves hreset hserves hhost
    exact hostFrame_schedule t t.schedule

section
variable {s t : State} (hstep : step s = .next t) (hb : s.busy = true)
  (hunserved : ∀ m rest, s.schedule = m :: rest → m ≠ .reset ∧ ¬ serves m s)
include hstep hb hunserved

theorem Invariant.hostFrame_of_unserved (h : Invariant s) : HostFrame s t := by
  obtain ⟨-, rfl⟩ | ⟨m, rest, hs, hm⟩ := step_effect hstep
  · exact hostFrame_schedule t t.schedule
  · obtain ⟨hreset, hserves⟩ := hunserved m rest hs
    obtain ⟨hfields, hout⟩ := hm.hostFrame_of_not_serves (h.congr rfl) hb hreset hserves
    exact ⟨hfields, hout⟩

theorem eq_schedule_of_unserved (hhost : ∀ x rest, s.schedule ≠ .host x :: rest) :
    t = { s with schedule := t.schedule } := by
  obtain ⟨-, rfl⟩ | ⟨m, rest, hs, hm⟩ := step_effect hstep
  · rfl
  · obtain ⟨hreset, hserves⟩ := hunserved m rest hs
    have hother : m.fromHost = false := by
      cases m with
      | host x => exact absurd hs (hhost x rest)
      | core | transport | timer | reset => rfl
    rw [hm.eq_of_not_serves hreset hserves hother]

end

/-- Settles O55: what the Host may write is all that can change, and another agent's move changes nothing. -/
theorem unservedCommandHangs : Obligations.UnservedCommandHangs := by
  intro s t h hb hstep hunserved
  obtain ⟨hfields, hlen, hbytes⟩ := h.hostFrame_of_unserved hstep hb hunserved
  refine ⟨?busy, ?_, ?_, ?_, ?_, ?_, ?_, ?_, ?_, ?_, ?_, ?_, ?_, hlen, hbytes, fun hhost => ?others⟩
  case busy => rwa [hfields]
  case others =>
    have ht := eq_schedule_of_unserved hstep hb hunserved hhost
    refine ⟨?_, ?_, ?_, ?_, fun a => ?_⟩ <;> rw [ht]
    exact byteAt_of_mem rfl rfl rfl a
  all_goals rw [hfields]

/-! A run's moves are numbered: each that serves it leaves fewer to come. -/

/-- How many serving moves the current repetition still takes where every response is OK: three for each fill frame, two
for the off buffer, and one for the pause before the repetition. `n` is LED_COUNT and `i` is POS. -/
def repetitionMoves (n i : Nat) : Animator → Phase → Nat
  | .paused, _ => 3 * n + 3
  | .filling, .issue => 3 * (n - i) + 2
  | .filling, .xferWait => 3 * (n - i) + 1
  | .filling, _ => 3 * (n - i)
  | .allOff, .issue => 2
  | .allOff, _ => 1
  | _, _ => 0

/-- What is left of a run: its repetitions, then the moves of the current one. -/
def State.runLeft (s : State) : Nat ×ₗ Nat :=
  toLex (s.runReps.toNat - s.repCount.toNat, repetitionMoves s.cfg.ledCount s.pos.toNat s.anim s.ph)

theorem HostFrame.runLeft {s t : State} (h : HostFrame s t) : t.runLeft = s.runLeft := by
  rw [h.fields]
  rfl

section
variable {s t : State} (hreps : t.runReps = s.runReps)
include hreps

theorem runLeft_lt_of_sameRepetition (hrep : t.repCount = s.repCount)
    (hlt : repetitionMoves t.cfg.ledCount t.pos.toNat t.anim t.ph <
      repetitionMoves s.cfg.ledCount s.pos.toNat s.anim s.ph) : t.runLeft < s.runLeft :=
  Prod.Lex.toLex_lt_toLex.mpr (.inr ⟨by simp only [hreps, hrep], hlt⟩)

theorem runLeft_lt_of_repetitionDone (hrep : t.repCount.toNat = s.repCount.toNat + 1)
    (hn : s.repCount.toNat < s.runReps.toNat) : t.runLeft < s.runLeft := by
  refine Prod.Lex.toLex_lt_toLex.mpr (.inl ?_)
  simp only [hreps, hrep]
  omega

/-- Each row of R137's table leaves less of the run. The rows that end it lead to an AS at rest, where no move is left. -/
theorem Transition.runLeft_lt {m : Move} (h : Transition s t m) (hcfg : t.cfg = s.cfg)
    (hn : s.repCount.toNat < s.runReps.toNat) (hpos : s.pos.toNat < s.cfg.ledCount) : t.runLeft < s.runLeft := by
  cases h with
  | issueFill h h' hp hr | fillOk h h' hp hr | fillFailed h h' hp hr | issueOff h h' hp hr | offFailed h h' hp hr =>
    refine runLeft_lt_of_sameRepetition hreps hr ?_
    simp [repetitionMoves, h, h', hp, hcfg]
  | nextFill h _ h' hp hr | lastFill h _ h' hp hr | again h h' hp hr =>
    refine runLeft_lt_of_sameRepetition hreps hr ?_
    simp only [repetitionMoves, h, h', hp, hcfg]
    omega
  | offPause _ _ _ _ hr => exact runLeft_lt_of_repetitionDone hreps hr hn
  | offDone _ hlast _ _ hr => exact runLeft_lt_of_repetitionDone hreps (hr ▸ hlast.symm) hn

end

/-! A move that serves the command. -/

theorem AnswerEffect.busy_of_curOp {s t : State} {r : Response} (ht : AnswerEffect s r t)
    (hc : s.curOp ≠ some .run) : t.busy = false := by
  cases ht with
  | opened | openFailed | configured | transmitted | transmitFailed | closed => rfl
  | fillSent hc' | offPaused hc' | runDone hc' | runFailed hc' => exact absurd hc' hc

section
variable {s t : State} {m : Move} (hm : moveStep m s = .next t) (hb' : t.busy = true)
include hm hb'

theorem ne_reset_of_busy : m ≠ .reset := by
  rintro rfl
  cases hm
  exact absurd hb' (by simp)

/-- Every command but a run ends with its one answer. -/
theorem run_of_serves (hserves : serves m s) : s.curOp = some .run := by
  cases m with
  | host | reset => exact absurd hserves id
  | core => exact hserves.1
  | transport r =>
    obtain ⟨q, hq, hw⟩ := hserves
    obtain ⟨-, hnone | ⟨d, hwait⟩⟩ | ⟨_, -, -, -, hk⟩ := transportStep_cases hm
    · exact absurd (hq.symm.trans hnone) (by simp)
    · exact absurd (Option.some.inj (hq.symm.trans hwait)) (hw d)
    · by_contra hc
      exact absurd (((continuation_effect hk).busy_of_curOp hc).symm.trans hb') (by decide)
  | timer =>
    obtain ⟨d, hq⟩ := hserves
    obtain ⟨-, hnone⟩ | ⟨_, -, hc, -⟩ := timerStep_cases hm
    · exact absurd hq (hnone d)
    · exact hc

theorem Invariant.runLeft_lt_of_serves (h : Invariant s) (hserves : serves m s) : t.runLeft < s.runLeft := by
  have hc := run_of_serves hm hb' hserves
  obtain ⟨hb, -, -, hn⟩ := h.control.run hc
  have he := moveStep_effect hm
  obtain ⟨-, hreps⟩ := he.latched (ne_reset_of_busy hm hb') hb
  exact (h.transition hc hserves hm).runLeft_lt hreps he.cfg hn h.posBound

theorem Invariant.runLeft_of_not_serves (h : Invariant s) (hb : s.busy = true) (hserves : ¬ serves m s) :
    t.runLeft = s.runLeft :=
  ((moveStep_effect hm).hostFrame_of_not_serves h hb (ne_reset_of_busy hm hb') hserves).runLeft

theorem Invariant.runLeft_le (h : Invariant s) (hb : s.busy = true) : t.runLeft ≤ s.runLeft := by
  by_cases hserves : serves m s
  · exact (h.runLeft_lt_of_serves hm hb' hserves).le
  · exact (h.runLeft_of_not_serves hm hb' hb hserves).le

end

/-! An endless run of moves. -/

theorem exists_serves_of_live {ms : Nat → Move} {ss : Nat → State} (hports : PortsLive ms ss) (hcore : CoreLive ms ss)
    {n : Nat} (hb : (ss n).busy = true) : ∃ k, n ≤ k ∧ serves (ms k) (ss k) := by
  by_cases hq : (ss n).pending = none
  · obtain ⟨k, hk, -, hserves⟩ := hcore n hb hq
    exact ⟨k, hk, hserves⟩
  · obtain ⟨k, hk, -, hserves⟩ := hports n hb hq
    exact ⟨k, hk, hserves⟩

/-- Settles O54: were the command in progress for ever, what is left of the run would never grow, and each serving move
after the point where it is least would lessen it. -/
theorem everyCommandEndsIfPortsLive : Obligations.EveryCommandEndsIfPortsLive := by
  intro ms ss h0 hmoves hports hcore
  by_contra hends
  have hb : ∀ n, (ss n).busy = true := by simpa using hends
  have hinv : ∀ n, Invariant (ss n) := by
    intro n
    induction n with
    | zero => exact h0
    | succ n ih => exact (moveStep_effect (hmoves n)).invariant ih
  have hanti : Antitone fun n => (ss n).runLeft :=
    antitone_nat_of_succ_le fun n => (hinv n).runLeft_le (hmoves n) (hb (n + 1)) (hb n)
  obtain ⟨n, hleast⟩ : ∃ n, ∀ k, ¬ (ss k).runLeft < (ss n).runLeft := ⟨_, Function.not_lt_argmin _⟩
  obtain ⟨k, hk, hserves⟩ := exists_serves_of_live hports hcore (hb n)
  exact hleast (k + 1) (((hinv k).runLeft_lt_of_serves (hmoves k) (hb (k + 1)) hserves).trans_le (hanti hk))

end Sys2Proof.Machine
end
